-- ==== Sys2Proof/Word.lean ====
section
/-! DEFINITION. Word types of the block: register bytes, window offsets, command words and voice indices. -/

namespace Sys2Proof

/-- One register byte: every access moves exactly one (20_memory.md R43). -/
abbrev Byte := BitVec 8

/-- An offset in the 32-byte register window (20_memory.md R40). -/
abbrev Offset := BitVec 5

/-- One command word of the host (30_encoding.md R54). -/
abbrev CommandWord := BitVec 16

/-- Voices are numbered 0, 1, 2 (00_scope.md R10). The register map calls them 1, 2, 3. -/
abbrev VoiceId := Fin 3

end Sys2Proof
end

