-- ==== Sys2Proof/Syntax.lean ====
section
/-! DEFINITION. The operations a host can issue, one constructor per row of spec/opcode_table.json, and the names of the
reserved command words. -/

namespace Sys2Proof

/-- The block's operations (30_encoding.md R54 to R58). A row that holds several offsets carries the offset. -/
inductive Instr where
  /-- `WR FREQ_LO1`. -/
  | wrFreqLo1 (data : Byte)
  /-- `WR FREQ_HI1`. -/
  | wrFreqHi1 (data : Byte)
  /-- `WR PW_LO1`. -/
  | wrPwLo1 (data : Byte)
  /-- `WR PW_HI1`. -/
  | wrPwHi1 (data : Byte)
  /-- `WR CTRL1`. -/
  | wrCtrl1 (data : Byte)
  /-- `WR AD1`. -/
  | wrAd1 (data : Byte)
  /-- `WR SR1`. -/
  | wrSr1 (data : Byte)
  /-- `WR FREQ_LO2`. -/
  | wrFreqLo2 (data : Byte)
  /-- `WR FREQ_HI2`. -/
  | wrFreqHi2 (data : Byte)
  /-- `WR PW_LO2`. -/
  | wrPwLo2 (data : Byte)
  /-- `WR PW_HI2`. -/
  | wrPwHi2 (data : Byte)
  /-- `WR CTRL2`. -/
  | wrCtrl2 (data : Byte)
  /-- `WR AD2`. -/
  | wrAd2 (data : Byte)
  /-- `WR SR2`. -/
  | wrSr2 (data : Byte)
  /-- `WR FREQ_LO3`. -/
  | wrFreqLo3 (data : Byte)
  /-- `WR FREQ_HI3`. -/
  | wrFreqHi3 (data : Byte)
  /-- `WR PW_LO3`. -/
  | wrPwLo3 (data : Byte)
  /-- `WR PW_HI3`. -/
  | wrPwHi3 (data : Byte)
  /-- `WR CTRL3`. -/
  | wrCtrl3 (data : Byte)
  /-- `WR AD3`. -/
  | wrAd3 (data : Byte)
  /-- `WR SR3`. -/
  | wrSr3 (data : Byte)
  /-- `WR FC_LO`. -/
  | wrFcLo (data : Byte)
  /-- `WR FC_HI`. -/
  | wrFcHi (data : Byte)
  /-- `WR RES_FILT`. -/
  | wrResFilt (data : Byte)
  /-- `WR MODE_VOL`. -/
  | wrModeVol (data : Byte)
  /-- `WR` to offset 0x19 (POTX): bus latch only. -/
  | wrLatch19 (data : Byte)
  /-- `WR` to offset 0x1A or 0x1B (POTY, OSC3): bus latch only. -/
  | wrLatch1A1B (off : Offset) (data : Byte)
  /-- `WR` to an offset of 0x1C to 0x1F (ENV3, unused): bus latch only. -/
  | wrLatch1C1F (off : Offset) (data : Byte)
  /-- `RD POTX`. -/
  | rdPotX
  /-- `RD POTY`. -/
  | rdPotY
  /-- `RD OSC3`. -/
  | rdOsc3
  /-- `RD ENV3`. -/
  | rdEnv3
  /-- `RD` of an offset of 0x00 to 0x0F. -/
  | rdBus00to0F (off : Offset)
  /-- `RD` of an offset of 0x10 to 0x17. -/
  | rdBus10to17 (off : Offset)
  /-- `RD` of offset 0x18. -/
  | rdBus18
  /-- `RD` of offset 0x1D. -/
  | rdBus1D
  /-- `RD` of offset 0x1E or 0x1F. -/
  | rdBus1E1F (off : Offset)
  /-- `CLK`: a natural number of SID cycles. A command word carries 0 to 16383 (R57). -/
  | clk (dt : Nat)
  /-- `RST`. -/
  | rst
  /-- `OUT`. -/
  | out
deriving DecidableEq, Repr

/-- The reserved encodings of R59, by what makes the word reserved. -/
inductive ReservedWord where
  /-- A READ word with bit 13 set. -/
  | readBit13
  /-- A READ word with bit 13 clear and a nonzero low byte. -/
  | readLowByte
  /-- A WRITE word with bit 13 set. -/
  | writeBit13
  /-- A SYS word whose `func` is 2 or more. -/
  | sysFunc
deriving DecidableEq, Repr

end Sys2Proof
end

