-- ==== Sys2Proof/WellFormed.lean ====
section
/-! DEFINITION. The operations a command word can name: the operand ranges of 30_encoding.md R55 to R57. -/

namespace Sys2Proof

/-- An operand is in the range its row of the table encodes. Every data byte is legal (60_exceptions.md R170). -/
def Instr.wellFormed : Instr → Bool
  | .wrFreqLo1 _ | .wrFreqHi1 _ | .wrPwLo1 _ | .wrPwHi1 _ | .wrCtrl1 _ | .wrAd1 _ | .wrSr1 _ => true
  | .wrFreqLo2 _ | .wrFreqHi2 _ | .wrPwLo2 _ | .wrPwHi2 _ | .wrCtrl2 _ | .wrAd2 _ | .wrSr2 _ => true
  | .wrFreqLo3 _ | .wrFreqHi3 _ | .wrPwLo3 _ | .wrPwHi3 _ | .wrCtrl3 _ | .wrAd3 _ | .wrSr3 _ => true
  | .wrFcLo _ | .wrFcHi _ | .wrResFilt _ | .wrModeVol _ => true
  | .wrLatch19 _ => true
  | .wrLatch1A1B off _ => decide (0x1A ≤ off.toNat ∧ off.toNat ≤ 0x1B)
  | .wrLatch1C1F off _ => decide (0x1C ≤ off.toNat)
  | .rdPotX | .rdPotY | .rdOsc3 | .rdEnv3 => true
  | .rdBus00to0F off => decide (off.toNat ≤ 0x0F)
  | .rdBus10to17 off => decide (0x10 ≤ off.toNat ∧ off.toNat ≤ 0x17)
  | .rdBus18 | .rdBus1D => true
  | .rdBus1E1F off => decide (0x1E ≤ off.toNat)
  | .clk dt => decide (dt ≤ 16383)
  | .rst | .out => true

end Sys2Proof
end

