-- ==== Sys2Proof/Decode.lean ====
section
/-! DEFINITION. The decoder and the encoder of command words (30_encoding.md R54 to R60). -/

namespace Sys2Proof

/-- The WRITE word of offset `off` and byte `data`: its row of the register map (R55). -/
def decodeWrite (off : Offset) (data : Byte) : Instr :=
  match off.toNat with
  | 0x00 => .wrFreqLo1 data
  | 0x01 => .wrFreqHi1 data
  | 0x02 => .wrPwLo1 data
  | 0x03 => .wrPwHi1 data
  | 0x04 => .wrCtrl1 data
  | 0x05 => .wrAd1 data
  | 0x06 => .wrSr1 data
  | 0x07 => .wrFreqLo2 data
  | 0x08 => .wrFreqHi2 data
  | 0x09 => .wrPwLo2 data
  | 0x0A => .wrPwHi2 data
  | 0x0B => .wrCtrl2 data
  | 0x0C => .wrAd2 data
  | 0x0D => .wrSr2 data
  | 0x0E => .wrFreqLo3 data
  | 0x0F => .wrFreqHi3 data
  | 0x10 => .wrPwLo3 data
  | 0x11 => .wrPwHi3 data
  | 0x12 => .wrCtrl3 data
  | 0x13 => .wrAd3 data
  | 0x14 => .wrSr3 data
  | 0x15 => .wrFcLo data
  | 0x16 => .wrFcHi data
  | 0x17 => .wrResFilt data
  | 0x18 => .wrModeVol data
  | 0x19 => .wrLatch19 data
  | 0x1A | 0x1B => .wrLatch1A1B off data
  | _ => .wrLatch1C1F off data

/-- The READ word of offset `off`: its row of the table (R56). -/
def decodeRead (off : Offset) : Instr :=
  match off.toNat with
  | 0x18 => .rdBus18
  | 0x19 => .rdPotX
  | 0x1A => .rdPotY
  | 0x1B => .rdOsc3
  | 0x1C => .rdEnv3
  | 0x1D => .rdBus1D
  | 0x1E | 0x1F => .rdBus1E1F off
  | n => if n < 0x10 then .rdBus00to0F off else .rdBus10to17 off

/-- The decoding procedure, total on every 16-bit word (R60). A reserved word is rejected by name (R59). -/
def decode (w : CommandWord) : Except ReservedWord Instr :=
  let off : Offset := w.extractLsb' 8 5
  let low : Byte := w.extractLsb' 0 8
  match (w.extractLsb' 14 2).toNat with
  | 0 =>
    if w.getLsbD 13 then .error .readBit13
    else if low = 0 then .ok (decodeRead off)
    else .error .readLowByte
  | 1 => if w.getLsbD 13 then .error .writeBit13 else .ok (decodeWrite off low)
  | 2 => .ok (.clk (w.extractLsb' 0 14).toNat)
  | _ =>
    match (w.extractLsb' 0 14).toNat with
    | 0 => .ok .rst
    | 1 => .ok .out
    | _ => .error .sysFunc

/-- A READ word: 00, 0, the offset, a zero byte (R54). -/
def readWord (off : Offset) : CommandWord := 0b000#3 ++ off ++ 0x00#8

/-- A WRITE word: 01, 0, the offset, the byte (R54). -/
def writeWord (off : Offset) (data : Byte) : CommandWord := 0b010#3 ++ off ++ data

/-- A CLOCK word: 10 and a 14-bit span (R54). -/
def clockWord (dt : BitVec 14) : CommandWord := 0b10#2 ++ dt

/-- A SYS word: 11 and a 14-bit function (R54). -/
def sysWord (func : BitVec 14) : CommandWord := 0b11#2 ++ func

/-- The command word of an operation (R54 to R58). -/
def encode : Instr → CommandWord
  | .wrFreqLo1 d => writeWord 0x00 d
  | .wrFreqHi1 d => writeWord 0x01 d
  | .wrPwLo1 d => writeWord 0x02 d
  | .wrPwHi1 d => writeWord 0x03 d
  | .wrCtrl1 d => writeWord 0x04 d
  | .wrAd1 d => writeWord 0x05 d
  | .wrSr1 d => writeWord 0x06 d
  | .wrFreqLo2 d => writeWord 0x07 d
  | .wrFreqHi2 d => writeWord 0x08 d
  | .wrPwLo2 d => writeWord 0x09 d
  | .wrPwHi2 d => writeWord 0x0A d
  | .wrCtrl2 d => writeWord 0x0B d
  | .wrAd2 d => writeWord 0x0C d
  | .wrSr2 d => writeWord 0x0D d
  | .wrFreqLo3 d => writeWord 0x0E d
  | .wrFreqHi3 d => writeWord 0x0F d
  | .wrPwLo3 d => writeWord 0x10 d
  | .wrPwHi3 d => writeWord 0x11 d
  | .wrCtrl3 d => writeWord 0x12 d
  | .wrAd3 d => writeWord 0x13 d
  | .wrSr3 d => writeWord 0x14 d
  | .wrFcLo d => writeWord 0x15 d
  | .wrFcHi d => writeWord 0x16 d
  | .wrResFilt d => writeWord 0x17 d
  | .wrModeVol d => writeWord 0x18 d
  | .wrLatch19 d => writeWord 0x19 d
  | .wrLatch1A1B off d => writeWord off d
  | .wrLatch1C1F off d => writeWord off d
  | .rdPotX => readWord 0x19
  | .rdPotY => readWord 0x1A
  | .rdOsc3 => readWord 0x1B
  | .rdEnv3 => readWord 0x1C
  | .rdBus00to0F off => readWord off
  | .rdBus10to17 off => readWord off
  | .rdBus18 => readWord 0x18
  | .rdBus1D => readWord 0x1D
  | .rdBus1E1F off => readWord off
  | .clk dt => clockWord (BitVec.ofNat 14 dt)
  | .rst => sysWord 0
  | .out => sysWord 1

/-- The word that the low `nbits` bits of `w` spell; every bit above them is 0. All words are 16 bits (R60). -/
def tableWord (nbits w : Nat) : CommandWord := BitVec.ofNat 16 (w % 2 ^ nbits)

/-- The instruction the decoder reads from an instruction of the table whose low `nbits` bits are `w`. -/
def decodeTableWord (nbits w : Nat) : Option Instr := (decode (tableWord nbits w)).toOption

end Sys2Proof
end

