-- ==== Sys2Proof/Machine/Flags.lean ====
section
/-! DEFINITION. The flag computations: the block has no condition codes (10_state.md R26); its flags are edges. -/

namespace Sys2Proof.Machine

/-- A stored bit goes from 0 to 1 (gate: 41_envelope.md R100; test: 40_waveform.md R76). -/
def rises (old new : Bool) : Bool := !old && new

/-- A stored bit goes from 1 to 0 (R100, R76). -/
def falls (old new : Bool) : Bool := old && !new

/-- `msb_rising`: bit 23 of the accumulator was 0 before the span and is 1 after it (R81). -/
def msbRises (prev acc : BitVec 24) : Bool := rises (prev.getLsbD 23) (acc.getLsbD 23)

/-- A voice's `Synchronize` resets its destination (R96): the voice rose, its destination has sync enabled, and the
voice is not itself being synced by a source that rose. -/
def syncResets (rising destSync ownSync sourceRising : Bool) : Bool :=
  rising && destSync && !(ownSync && sourceRising)

end Sys2Proof.Machine
end

