-- ==== Sys2Proof/Machine/Operands.lean ====
section
/-! DEFINITION. Operand forms: the fields of a data byte and how a byte enters a wider register (30_encoding.md R50,
R51). -/

namespace Sys2Proof.Machine

/-- `d[7:4]`. -/
def highNibble (d : Byte) : BitVec 4 := d.extractLsb' 4 4

/-- `d[3:0]`. -/
def lowNibble (d : Byte) : BitVec 4 := d.extractLsb' 0 4

/-- `gate`, bit 0 of a control byte (R50). -/
def ctrlGate (d : Byte) : Bool := d.getLsbD 0

/-- `sync`, bit 1 of a control byte (R50). -/
def ctrlSync (d : Byte) : Bool := d.getLsbD 1

/-- `ring`, bit 2 of a control byte (R50). -/
def ctrlRing (d : Byte) : Bool := d.getLsbD 2

/-- `test`, bit 3 of a control byte (R50). -/
def ctrlTest (d : Byte) : Bool := d.getLsbD 3

/-- `waveform`, bits 7 to 4 of a control byte (R50). -/
def ctrlWaveform (d : Byte) : BitVec 4 := highNibble d

/-- `mode`, bits 6 to 4 of a MODE_VOL byte (R50). -/
def modeField (d : Byte) : BitVec 3 := d.extractLsb' 4 3

/-- `voice3off`, bit 7 of a MODE_VOL byte (R50). -/
def voice3offField (d : Byte) : Bool := d.getLsbD 7

/-- A FREQ_LO byte enters `freq` (40_waveform.md R70). -/
def withFreqLo (freq : BitVec 16) (d : Byte) : BitVec 16 := (freq &&& 0xFF00) ||| d.setWidth 16

/-- A FREQ_HI byte enters `freq` (R71). -/
def withFreqHi (freq : BitVec 16) (d : Byte) : BitVec 16 := (d.setWidth 16 <<< 8) ||| (freq &&& 0x00FF)

/-- A PW_LO byte enters `pw` (R72). -/
def withPwLo (pw : BitVec 12) (d : Byte) : BitVec 12 := (pw &&& 0xF00) ||| d.setWidth 12

/-- A PW_HI byte enters `pw`; `d[7:4]` is ignored (R73). -/
def withPwHi (pw : BitVec 12) (d : Byte) : BitVec 12 :=
  ((d &&& 0x0F).setWidth 12 <<< 8) ||| (pw &&& 0x0FF)

/-- An FC_LO byte enters `fc`; `d[7:3]` is ignored (43_filter.md R125). -/
def withFcLo (fc : BitVec 11) (d : Byte) : BitVec 11 := (fc &&& 0x7F8) ||| (d &&& 0x07).setWidth 11

/-- An FC_HI byte enters `fc` (R126). -/
def withFcHi (fc : BitVec 11) (d : Byte) : BitVec 11 := (d.setWidth 11 <<< 3) ||| (fc &&& 0x007)

end Sys2Proof.Machine
end

