-- ==== Sys2Proof/Config.lean ====
section
/-! DEFINITION. The parameters a model instance is built with (00_scope.md R6, R9). The OPEN ones have no value here:
an opaque constant stands for whatever the instance was built with, so no proof can rest on one. The values R6 decides
for the others stand in Machine/Constants.lean. -/

namespace Sys2Proof

/-- The chip variant `MODEL` (R1, R6). -/
inductive Model where
  | mos6581
  | mos8580
deriving DecidableEq, Repr, Inhabited

/-- The parameters of one instance (R6). They are fixed at construction, changed by no operation and by no reset
(R9), so they are no part of State. -/
structure Params where
  /-- `MODEL`. -/
  model : Model
  /-- `WAVE_ST[m]`: 4096 entries of 8 bits. -/
  waveST : Model → BitVec 12 → Byte
  /-- `WAVE_PT[m]`. -/
  wavePT : Model → BitVec 12 → Byte
  /-- `WAVE_PS[m]`. -/
  wavePS : Model → BitVec 12 → Byte
  /-- `WAVE_PST[m]`. -/
  wavePST : Model → BitVec 12 → Byte
  /-- `F0[m]`: 2048 entries of 16 bits, in Hz. -/
  f0 : Model → BitVec 11 → BitVec 16
  /-- `NOISE_TAP`: the shift-register bits that feed noise output bits 11 down to 4. -/
  noiseTap : Fin 8 → Fin 23
  /-- `FILTER_ENABLED`. -/
  filterEnabled : Bool
  /-- `EXTFILTER_ENABLED`. -/
  extFilterEnabled : Bool
  /-- `MUTE[v]`. -/
  mute : VoiceId → Bool
  /-- `PASS_FREQ` in thousandths of a hertz; `none` where the instance is not given one (R181). Log entry 6. -/
  passFreq : Option Nat
  /-- `SAMPLE_RATE` in hertz, read only by the default of `PASS_FREQ`. -/
  sampleRate : Nat
  /-- `BUS_TTL` in cycles. -/
  busTtl : Nat
  /-- `TEST_CLEARS_NOISE`. -/
  testClearsNoise : Bool
  /-- The external input port `ext_in`. -/
  extIn : Int

namespace Config

/-- OPEN (R6, 92_eei_decisions.md D23). DESIGN CHOICE, safe: log entry 4. -/
opaque model : Model

/-- OPEN (R6, D24). DESIGN CHOICE, safe: log entry 4. -/
opaque waveST : Model → BitVec 12 → Byte

/-- OPEN (R6, D24). DESIGN CHOICE, safe: log entry 4. -/
opaque wavePT : Model → BitVec 12 → Byte

/-- OPEN (R6, D24). DESIGN CHOICE, safe: log entry 4. -/
opaque wavePS : Model → BitVec 12 → Byte

/-- OPEN (R6, D24). DESIGN CHOICE, safe: log entry 4. -/
opaque wavePST : Model → BitVec 12 → Byte

/-- OPEN (R6, D25). DESIGN CHOICE, safe: log entry 4. -/
opaque f0 : Model → BitVec 11 → BitVec 16

/-- OPEN with a default (R6, R181, D22). DESIGN CHOICE, safe: log entries 4 and 6. -/
opaque passFreq : Option Nat

end Config

end Sys2Proof
end

