-- ==== Sys2Proof/Machine/Arith.lean ====
section
/-! DEFINITION. The arithmetic laws of 00_scope.md R11 that Lean's operators do not give under the spec's names. On
integers `a >>> n` is the arithmetic shift, floor(a / 2^n), and `Int.tdiv` truncates toward zero. -/

namespace Sys2Proof.Machine

/-- `floor_div(a, b)` for a positive `b` (R11). -/
def floorDiv (a b : Int) : Int := a.fdiv b

/-- `ceil_div(a, b)`: the least natural `q` with `q * b ≥ a`, for a positive `b` (R11). -/
def ceilDiv (a b : Nat) : Nat := (a + b - 1) / b

/-- `round(a / b)` for naturals with a positive `b`: nearest, ties away from zero (R11). -/
def roundDiv (a b : Nat) : Nat := (2 * a + b) / (2 * b)

/-- `clip(x, lo, hi)` (R11). -/
def clip (x lo hi : Int) : Int := min (max x lo) hi

/-- The integer part of `π * 10^20`. -/
def piNum : Nat := 314159265358979323846

/-- `round(2π * (n / d) * 1.048576)` for a frequency of `n / d` hertz (R130, R145), with 20 decimals of π in place of
π. DEDUCED: the result is that of the exact real value on every frequency the parameters can hold (log entry 7). -/
def angularStep (n d : Nat) : Nat :=
  roundDiv (n * (2 * piNum * 1048576)) (d * 10 ^ 20 * 1000000)

/-- The loop `while n > 0: c <- min(n, 8); body c; n <- n - c` shared by the filters (R135, R146). -/
def chunkLoop {α : Type} (body : Nat → α → α) (n : Nat) (x : α) : α :=
  go n n x
where
  /-- The loop on `fuel`: every turn takes at least one cycle, so `n` turns are enough. -/
  go : Nat → Nat → α → α
    | 0, _, x => x
    | fuel + 1, n, x => if n = 0 then x else go fuel (n - min n 8) (body (min n 8) x)

end Sys2Proof.Machine
end

