-- ==== Sys2Proof/Machine/Constants.lean ====
section
/-! DEFINITION. The constants of 00_scope.md R7 and R8, the values the spec decides for parameters (R6), and the
configuration the machine runs with. -/

namespace Sys2Proof.Machine

/-- `WAVE_ZERO[m]` (R7). -/
def waveZero : Model → Int
  | .mos6581 => 0x380
  | .mos8580 => 0x800

/-- `VOICE_DC[m]` (R7). -/
def voiceDc : Model → Int
  | .mos6581 => 0x800 * 0xFF
  | .mos8580 => 0

/-- `MIXER_DC_FILTER[m]` (R7): the expression is the source's, with the operators of R11. -/
def mixerDcFilter : Model → Int
  | .mos6581 => Int.tdiv (-0xFFF * 0xFF) 18 >>> 7
  | .mos8580 => 0

/-- `MIXER_DC_EXT[m]` (R7): the expression is the source's, with the operators of R11. -/
def mixerDcExt : Model → Int
  | .mos6581 => ((((0x800 - 0x380) + 0x800) * 0xFF * 3 - Int.tdiv (0xFFF * 0xFF) 18) >>> 7) * 0x0F
  | .mos8580 => 0

/-- `RATE[0..15]` (R8). -/
def rateTable : List Nat :=
  [9, 32, 63, 95, 149, 220, 267, 313, 392, 977, 1954, 3126, 3907, 11720, 19532, 31251]

/-- `RATE[n]`: a 4-bit field indexes the table directly (30_encoding.md R52). -/
def rate (n : BitVec 4) : Nat := rateTable.getD n.toNat 0

/-- `SUSTAIN_LEVEL[n] = (n << 4) | n` (R8). -/
def sustainLevel (n : BitVec 4) : Byte := (n.setWidth 8 <<< 4) ||| n.setWidth 8

/-- The noise register's reload value (R8). -/
def noiseReload : BitVec 23 := 0x7FFFF8

/-- `W0HP` (R8). -/
def w0hp : Int := 105

/-- The clamp of the external low-pass coefficient (R8). -/
def w0lpMax : Nat := 104858

/-- `W0_MAX_1` (R8): of no effect (43_filter.md R138). -/
def w0Max1 : Nat := 105414

/-- `W0_MAX_DT` (R8). -/
def w0MaxDt : Nat := 26353

/-- `OUT_DIV` (R8). -/
def outDiv : Int := 11

/-- `NOISE_TAP`: the value the spec decides, (22, 20, 16, 13, 11, 7, 4, 2) (R6, D26). -/
def defaultNoiseTap : Fin 8 → Fin 23
  | 0 => 22
  | 1 => 20
  | 2 => 16
  | 3 => 13
  | 4 => 11
  | 5 => 7
  | 6 => 4
  | 7 => 2

/-- `BUS_TTL`: the value the spec decides (R6, D11). -/
def defaultBusTtl : Nat := 0x2000

/-- `SAMPLE_RATE`: the default (R6). -/
def defaultSampleRate : Nat := 22050

/-- `FILTER_ENABLED`: the value the spec decides (R6, D19). Log entry 5. -/
def defaultFilterEnabled : Bool := true

/-- `EXTFILTER_ENABLED`: the value the spec decides (R6, D19). Log entry 5. -/
def defaultExtFilterEnabled : Bool := true

/-- `MUTE[v]`: the value the spec decides for every voice (R6, D20). Log entry 5. -/
def defaultMute (_v : VoiceId) : Bool := false

/-- `TEST_CLEARS_NOISE`: the value the spec decides (R6, D14). -/
def defaultTestClearsNoise : Bool := false

/-- `ext_in`: the port is tied to 0 (R6, D18). Log entry 12. -/
def defaultExtIn : Int := 0

/-- The configuration of the machine that `exec` runs: the OPEN parameters are the opaque constants of Config.lean, the
rest has the value the spec decides (R6). -/
def params : Params where
  model := Config.model
  waveST := Config.waveST
  wavePT := Config.wavePT
  wavePS := Config.wavePS
  wavePST := Config.wavePST
  f0 := Config.f0
  noiseTap := defaultNoiseTap
  filterEnabled := defaultFilterEnabled
  extFilterEnabled := defaultExtFilterEnabled
  mute := defaultMute
  passFreq := Config.passFreq
  sampleRate := defaultSampleRate
  busTtl := defaultBusTtl
  testClearsNoise := defaultTestClearsNoise
  extIn := defaultExtIn

end Sys2Proof.Machine
end

