-- ==== Sys2Proof/Machine/State.lean ====
section
/-! DEFINITION. The block's state as 10_state.md gives it (R13 to R27), the reasons a step can stop, and the state
after reset. -/

namespace Sys2Proof.Machine

/-- One waveform generator (R14). -/
structure WaveState where
  /-- 24-bit phase accumulator. -/
  acc : BitVec 24
  /-- 23-bit noise shift register. -/
  shift : BitVec 23
  /-- 16-bit frequency. -/
  freq : BitVec 16
  /-- 12-bit pulse width. -/
  pw : BitVec 12
  /-- Waveform select: bit 0 triangle, bit 1 sawtooth, bit 2 pulse, bit 3 noise. -/
  waveform : BitVec 4
  /-- Test bit. -/
  test : Bool
  /-- Ring-modulation enable. -/
  ring : Bool
  /-- Hard-sync enable: this voice is reset by its source. -/
  sync : Bool
  /-- Bit 23 of `acc` rose in the last clock span. -/
  msbRising : Bool
deriving DecidableEq, Repr

/-- The phases of an envelope (R17). -/
inductive EnvPhase where
  | attack
  | decaySustain
  | release
deriving DecidableEq, Repr

/-- One envelope generator (R17). The counters and periods are counts: naturals, whose ranges are an invariant of
the machine (Safety.lean; log entry 11). -/
structure EnvState where
  /-- 15-bit cycle counter. -/
  rateCounter : Nat
  /-- The comparison value: one of `RATE[0..15]`. -/
  ratePeriod : Nat
  /-- Exponential sub-counter, below `expPeriod`. -/
  expCounter : Nat
  /-- Exponential period: one of 1, 2, 4, 8, 16, 30. -/
  expPeriod : Nat
  /-- 8-bit envelope level, the envelope output. -/
  level : Byte
  /-- Attack field. -/
  attack : BitVec 4
  /-- Decay field. -/
  decay : BitVec 4
  /-- Sustain field. -/
  sustain : BitVec 4
  /-- Release field. -/
  release : BitVec 4
  /-- Last written gate bit. -/
  gate : Bool
  /-- Envelope phase. -/
  state : EnvPhase
  /-- The level is frozen at zero. -/
  holdZero : Bool
deriving DecidableEq, Repr

/-- A voice: one waveform generator and one envelope generator (R13, 42_voice.md). -/
structure Voice where
  wave : WaveState
  env : EnvState
deriving DecidableEq, Repr

/-- The resonant filter (R21). `w0` and `1024/Q` are functions of these fields (R22). -/
structure FilterState where
  /-- 11-bit cutoff index. -/
  fc : BitVec 11
  /-- Resonance. -/
  res : BitVec 4
  /-- Route mask: bits 0 to 2 the voices, bit 3 the external input. -/
  filt : BitVec 4
  /-- Bit 0 low-pass, bit 1 band-pass, bit 2 high-pass. -/
  mode : BitVec 3
  /-- Master volume. -/
  vol : BitVec 4
  /-- Voice 3 (index 2) off. -/
  voice3off : Bool
  /-- High-pass integrator. -/
  vhp : Int
  /-- Band-pass integrator. -/
  vbp : Int
  /-- Low-pass integrator. -/
  vlp : Int
  /-- Bypass sum of the last clock operation. -/
  vnf : Int
deriving DecidableEq, Repr

/-- The external filter (R24). -/
structure ExtFilterState where
  /-- Low-pass integrator. -/
  vlp : Int
  /-- High-pass integrator. -/
  vhp : Int
  /-- The external filter's output. -/
  vo : Int
deriving DecidableEq, Repr

/-- A value an operation returns to the host (70_reset_and_hazards.md R192). -/
inductive Returned where
  /-- The byte of a READ. -/
  | byte (b : Byte)
  /-- The signed 16-bit sample of an OUTPUT, in two's complement (log entry 13). -/
  | sample (x : BitVec 16)
deriving DecidableEq, Repr

/-- The machine: the block's record (R13), the command words the host has issued and the block has not taken, and
the values returned so far, oldest first. The last two are the model's own (log entries 1 and 3). -/
structure State where
  /-- Voice 0, called voice 1 by the register map. -/
  voice0 : Voice
  /-- Voice 1, called voice 2 by the register map. -/
  voice1 : Voice
  /-- Voice 2, called voice 3 by the register map. -/
  voice2 : Voice
  /-- The resonant filter. -/
  filter : FilterState
  /-- The external filter. -/
  ext : ExtFilterState
  /-- The last byte written to the window (R25). -/
  busValue : Byte
  /-- Remaining time-to-live of `busValue`, in cycles (R25). -/
  busTtl : Int
  /-- Command words issued and not yet taken, next first. DESIGN CHOICE: log entry 1. -/
  pending : List CommandWord
  /-- Values returned by READ and OUTPUT, oldest first. DESIGN CHOICE: log entry 3. -/
  returned : List Returned
deriving DecidableEq, Repr

/-- Why a step stops with a fault: never. No operation raises an exception (60_exceptions.md R170, R173), so the type
has no constructor; safe (log entry 9). -/
inductive Fault where
deriving DecidableEq, Repr

/-- Why a step is refused. -/
inductive Refusal where
  /-- Raised by exec for an instruction that has no meaning yet (none is left); safe: the model stops. -/
  | notModelled (mnemonic : String)
  /-- Raised by step for a reserved command word, `Refused(w)` of R171; safe: the spec itself refuses the word. -/
  | reserved (w : CommandWord) (why : ReservedWord)
deriving DecidableEq, Repr

/-- What a meaning answers. -/
abbrev Result := Host.Outcome State Fault Refusal

/-- Reset values of a waveform generator (R16). -/
def WaveState.reset : WaveState where
  acc := 0
  shift := 0x7FFFF8
  freq := 0
  pw := 0
  waveform := 0
  test := false
  ring := false
  sync := false
  msbRising := false

/-- Reset values of an envelope generator (R20). -/
def EnvState.reset : EnvState where
  rateCounter := 0
  ratePeriod := 9
  expCounter := 0
  expPeriod := 1
  level := 0
  attack := 0
  decay := 0
  sustain := 0
  release := 0
  gate := false
  state := .release
  holdZero := true

/-- Reset values of a voice. -/
def Voice.reset : Voice where
  wave := WaveState.reset
  env := EnvState.reset

/-- Reset values of the resonant filter (R23). -/
def FilterState.reset : FilterState where
  fc := 0
  res := 0
  filt := 0
  mode := 0
  vol := 0
  voice3off := false
  vhp := 0
  vbp := 0
  vlp := 0
  vnf := 0

/-- Reset values of the external filter (R24). -/
def ExtFilterState.reset : ExtFilterState where
  vlp := 0
  vhp := 0
  vo := 0

/-- The machine right after reset, which is also the state at construction (R25, R27, R28): nothing issued, nothing
returned. -/
def State.reset : State where
  voice0 := Voice.reset
  voice1 := Voice.reset
  voice2 := Voice.reset
  filter := FilterState.reset
  ext := ExtFilterState.reset
  busValue := 0
  busTtl := 0
  pending := []
  returned := []

end Sys2Proof.Machine
end

