-- ==== Sys2Proof/Machine/Ops.lean ====
section
/-! DEFINITION. The named operations over State that every meaning is built from: access to a voice, the bus latch,
the value returned to the host, and taking the host's next command word. The block takes no exception and returns from
none (60_exceptions.md R170, R173), so there is no operation for either. -/

namespace Sys2Proof.Machine

/-- `src(v) = (v + 2) mod 3` (00_scope.md R10). -/
def syncSource (v : VoiceId) : VoiceId := v + 2

/-- `dst(v) = (v + 1) mod 3` (R10). -/
def syncDest (v : VoiceId) : VoiceId := v + 1

/-- `s.voice[v]`. -/
def State.voice (s : State) (v : VoiceId) : Voice :=
  match v with
  | 0 => s.voice0
  | 1 => s.voice1
  | 2 => s.voice2

/-- `s.voice[v].wave`. -/
def State.wave (s : State) (v : VoiceId) : WaveState := (s.voice v).wave

/-- `s.voice[v].env`. -/
def State.env (s : State) (v : VoiceId) : EnvState := (s.voice v).env

/-- `s.voice[v] <- x`. -/
def State.setVoice (s : State) (v : VoiceId) (x : Voice) : State :=
  { s with
    voice0 := if v = 0 then x else s.voice0
    voice1 := if v = 1 then x else s.voice1
    voice2 := if v = 2 then x else s.voice2 }

/-- `s.voice[v].wave <- w`. -/
def State.setWave (s : State) (v : VoiceId) (w : WaveState) : State :=
  s.setVoice v { s.voice v with wave := w }

/-- `s.voice[v].env <- e`. -/
def State.setEnv (s : State) (v : VoiceId) (e : EnvState) : State :=
  s.setVoice v { s.voice v with env := e }

/-- `s.filter <- f`. -/
def State.setFilter (s : State) (f : FilterState) : State := { s with filter := f }

/-- `s.ext <- x`. -/
def State.setExt (s : State) (x : ExtFilterState) : State := { s with ext := x }

/-- `BusLatch(d)`: every write records the byte and restarts its time-to-live (45_sid_top.md R151). -/
def State.busLatch (p : Params) (s : State) (d : Byte) : State :=
  { s with busValue := d, busTtl := p.busTtl }

/-- `BusAge(dt)`: the time-to-live runs down; a byte whose time is over is cleared (R160). -/
def State.busAge (s : State) (dt : Nat) : State :=
  if s.busTtl - dt ≤ 0 then { s with busValue := 0, busTtl := 0 }
  else { s with busTtl := s.busTtl - dt }

/-- An operation returns a value to the host (70_reset_and_hazards.md R192, R193). -/
def State.deliver (s : State) (r : Returned) : State := { s with returned := s.returned ++ [r] }

/-- The next command word of the host's stream, and the state with it taken (log entry 1). -/
def State.take (s : State) : Option (CommandWord × State) :=
  match s.pending with
  | [] => none
  | w :: rest => some (w, { s with pending := rest })

/-- The host issues `w` as the next command word. -/
def State.issue (s : State) (w : CommandWord) : State := { s with pending := w :: s.pending }

end Sys2Proof.Machine
end

