-- ==== Sys2Proof/Machine/Envelope.lean ====
section
/-! DEFINITION. The envelope generators: 41_envelope.md R100 to R110. -/

namespace Sys2Proof.Machine

/-- `EnvGate` (R100). -/
def EnvState.writeGate (e : EnvState) (g : Bool) : EnvState :=
  if rises e.gate g then
    { e with state := .attack, ratePeriod := rate e.attack, holdZero := false, gate := g }
  else if falls e.gate g then
    { e with state := .release, ratePeriod := rate e.release, gate := g }
  else { e with gate := g }

/-- AD write (R101). -/
def EnvState.writeAd (e : EnvState) (d : Byte) : EnvState :=
  { e with
    attack := highNibble d
    decay := lowNibble d
    ratePeriod :=
      match e.state with
      | .attack => rate (highNibble d)
      | .decaySustain => rate (lowNibble d)
      | .release => e.ratePeriod }

/-- SR write (R102): only `RELEASE` is an affected state. -/
def EnvState.writeSr (e : EnvState) (d : Byte) : EnvState :=
  { e with
    sustain := highNibble d
    release := lowNibble d
    ratePeriod :=
      match e.state with
      | .attack => e.ratePeriod
      | .decaySustain => e.ratePeriod
      | .release => rate (lowNibble d) }

/-- The number of cycles to the next step, with the wrap of the ADSR delay (R103; 90_conflicts.md C2). -/
def EnvState.cyclesToStep (e : EnvState) : Nat :=
  if e.rateCounter < e.ratePeriod then e.ratePeriod - e.rateCounter
  else e.ratePeriod + 0x7FFF - e.rateCounter

/-- The counter advances by `n` cycles without a step; a value past 0x7FFF wraps and skips 0 (R104). -/
def EnvState.advance (e : EnvState) (n : Nat) : EnvState :=
  { e with
    rateCounter :=
      if e.rateCounter + n ≥ 0x8000 then e.rateCounter + n - 0x7FFF else e.rateCounter + n }

/-- `EnvAction` (R106, R108, R109). -/
def EnvState.action (e : EnvState) : EnvState :=
  match e.state with
  | .attack =>
    if e.level + 1 = 0xFF then
      { e with level := e.level + 1, state := .decaySustain, ratePeriod := rate e.decay }
    else { e with level := e.level + 1 }
  | .decaySustain =>
    if e.level ≠ sustainLevel e.sustain then { e with level := e.level - 1 } else e
  | .release => { e with level := e.level - 1 }

/-- `ExpPeriodUpdate` (R107). -/
def EnvState.expPeriodUpdate (e : EnvState) : EnvState :=
  match e.level.toNat with
  | 0xFF => { e with expPeriod := 1 }
  | 0x5D => { e with expPeriod := 2 }
  | 0x36 => { e with expPeriod := 4 }
  | 0x1A => { e with expPeriod := 8 }
  | 0x0E => { e with expPeriod := 16 }
  | 0x06 => { e with expPeriod := 30 }
  | 0x00 => { e with expPeriod := 1, holdZero := true }
  | _ => e

/-- One envelope step: the rate counter is zeroed, and the sub-counter either counts or lets the action through
(R105). -/
def EnvState.step (e : EnvState) : EnvState :=
  if e.state = .attack ∨ e.expCounter + 1 = e.expPeriod then
    if e.holdZero then { e with rateCounter := 0, expCounter := 0 }
    else ({ e with rateCounter := 0, expCounter := 0 } : EnvState).action.expPeriodUpdate
  else { e with rateCounter := 0, expCounter := e.expCounter + 1 }

/-- `EnvClock(v, n)` (R103 to R105). -/
def EnvState.clock (e : EnvState) (n : Nat) : EnvState :=
  go (n + 1) n e.cyclesToStep e
where
  /-- The loop on `fuel`, `n` cycles left and `span` cycles to the next step. Every step takes at least one cycle in
  the states the machine reaches, so `n + 1` turns are enough there (log entry 11). -/
  go : Nat → Nat → Nat → EnvState → EnvState
    | 0, _, _, e => e
    | fuel + 1, n, span, e =>
      if n < span then e.advance n else go fuel (n - span) e.step.ratePeriod e.step

/-- `EnvClock(v, n)` for one voice of the machine. -/
def State.envClock (s : State) (v : VoiceId) (n : Nat) : State := s.setEnv v ((s.env v).clock n)

/-- Step 2 of a clock operation: all three envelopes (45_sid_top.md R161). -/
def State.envClockAll (s : State) (n : Nat) : State :=
  ((s.envClock 0 n).envClock 1 n).envClock 2 n

end Sys2Proof.Machine
end

