-- ==== Sys2Proof/Machine/ExtFilter.lean ====
section
/-! DEFINITION. The external filter: 44_extfilter.md R145 to R148. -/

namespace Sys2Proof.Machine

/-- `PASS_FREQ` in thousandths of a hertz: the given one, or `min(20000, 0.45 * SAMPLE_RATE)` hertz (R6, R181). -/
def passFreqMilliHz (p : Params) : Nat := p.passFreq.getD (min 20000000 (450 * p.sampleRate))

/-- `w0lp` (R145). -/
def w0lp (p : Params) : Nat := min (angularStep (passFreqMilliHz p) 1000) w0lpMax

/-- One chunk of `c` cycles with input `vi`, held for the whole span (R146). -/
def ExtFilterState.chunk (p : Params) (vi : Int) (c : Nat) (x : ExtFilterState) : ExtFilterState where
  vlp := x.vlp + ((((w0lp p : Int) * c) >>> 8) * (vi - x.vlp)) >>> 12
  vhp := x.vhp + (w0hp * c * (x.vlp - x.vhp)) >>> 20
  vo := x.vlp - x.vhp

/-- `ExtClock(n, Vi)` (R146, R147). -/
def ExtFilterState.clock (p : Params) (x : ExtFilterState) (n : Nat) (vi : Int) : ExtFilterState :=
  if p.extFilterEnabled then chunkLoop (ExtFilterState.chunk p vi) n x
  else { vlp := 0, vhp := 0, vo := vi - mixerDcExt p.model }

/-- `Sample()` before it is a 16-bit word: scaled by `OUT_DIV` with truncation, then clipped (45_sid_top.md R166). -/
def ExtFilterState.sampleValue (x : ExtFilterState) : Int := clip (Int.tdiv x.vo outDiv) (-32768) 32767

/-- `Sample()`, a signed 16-bit value in two's complement (R166; log entry 13). -/
def ExtFilterState.sample (x : ExtFilterState) : BitVec 16 := BitVec.ofInt 16 x.sampleValue

end Sys2Proof.Machine
end

