-- ==== Sys2Proof/Machine/Filter.lean ====
section
/-! DEFINITION. The resonant filter and mixer: 43_filter.md R125 to R139. -/

namespace Sys2Proof.Machine

/-- FC_LO write (R125). -/
def FilterState.writeFcLo (f : FilterState) (d : Byte) : FilterState := { f with fc := withFcLo f.fc d }

/-- FC_HI write (R126). -/
def FilterState.writeFcHi (f : FilterState) (d : Byte) : FilterState := { f with fc := withFcHi f.fc d }

/-- RES_FILT write (R127). -/
def FilterState.writeResFilt (f : FilterState) (d : Byte) : FilterState :=
  { f with res := highNibble d, filt := lowNibble d }

/-- MODE_VOL write (R128). -/
def FilterState.writeModeVol (f : FilterState) (d : Byte) : FilterState :=
  { f with vol := lowNibble d, mode := modeField d, voice3off := voice3offField d }

/-- The cutoff coefficient `w0`, a function of `fc` and the model (R130, R22). -/
def FilterState.w0 (p : Params) (f : FilterState) : Nat := angularStep (p.f0 p.model f.fc).toNat 1

/-- `w0_ceil_1` (R130): read by no rule (R138). -/
def FilterState.w0Ceil1 (p : Params) (f : FilterState) : Nat := min (f.w0 p) w0Max1

/-- `w0_ceil_dt` (R130): the coefficient of every chunk (R138). -/
def FilterState.w0CeilDt (p : Params) (f : FilterState) : Nat := min (f.w0 p) w0MaxDt

/-- `round(1024 / (0.707 + res / 15)) = round(15360000 / (10605 + 1000 * res))` (R131). -/
def q1024 (res : BitVec 4) : Nat := roundDiv 15360000 (10605 + 1000 * res.toNat)

/-- The four scaled inputs of the mixer (R132). -/
structure MixInputs where
  v0 : Int
  v1 : Int
  v2 : Int
  xe : Int
deriving DecidableEq, Repr

/-- `FilterInputs`: scaling and voice-3-off (R132). -/
def FilterState.inputs (f : FilterState) (o0 o1 o2 x : Int) : MixInputs where
  v0 := o0 >>> 7
  v1 := o1 >>> 7
  v2 := if f.voice3off && !f.filt.getLsbD 2 then 0 else o2 >>> 7
  xe := x >>> 7

/-- `b ? x : 0`. -/
def gated (b : Bool) (x : Int) : Int := if b then x else 0

/-- `Vi`: the inputs routed through the filter (R133). -/
def FilterState.routed (f : FilterState) (m : MixInputs) : Int :=
  gated (f.filt.getLsbD 0) m.v0 + gated (f.filt.getLsbD 1) m.v1 + gated (f.filt.getLsbD 2) m.v2
    + gated (f.filt.getLsbD 3) m.xe

/-- `Vnf`: the rest of the inputs (R133). -/
def FilterState.bypassed (f : FilterState) (m : MixInputs) : Int :=
  gated (!f.filt.getLsbD 0) m.v0 + gated (!f.filt.getLsbD 1) m.v1 + gated (!f.filt.getLsbD 2) m.v2
    + gated (!f.filt.getLsbD 3) m.xe

/-- One chunk of `c` cycles with filter input `vi` (R135). -/
def FilterState.chunk (p : Params) (vi : Int) (c : Nat) (f : FilterState) : FilterState :=
  let w0dt : Int := ((f.w0CeilDt p : Int) * c) >>> 6
  let vbp := f.vbp - (w0dt * f.vhp) >>> 14
  let vlp := f.vlp - (w0dt * f.vbp) >>> 14
  { f with
    vbp := vbp
    vlp := vlp
    vhp := (vbp * q1024 f.res) >>> 10 - vlp - vi }

/-- `FilterClock(n, o0, o1, o2, x)` (R134, R135). -/
def FilterState.clock (p : Params) (f : FilterState) (n : Nat) (o0 o1 o2 x : Int) : FilterState :=
  let m := f.inputs o0 o1 o2 x
  if p.filterEnabled then
    chunkLoop (FilterState.chunk p (f.routed m)) n { f with vnf := f.bypassed m }
  else { f with vnf := m.v0 + m.v1 + m.v2 + m.xe, vhp := 0, vbp := 0, vlp := 0 }

/-- `FilterOut()` (R136, R137). -/
def FilterState.out (p : Params) (f : FilterState) : Int :=
  if p.filterEnabled then
    (f.vnf + (gated (f.mode.getLsbD 0) f.vlp + gated (f.mode.getLsbD 1) f.vbp + gated (f.mode.getLsbD 2) f.vhp)
      + mixerDcFilter p.model) * f.vol.toNat
  else (f.vnf + mixerDcFilter p.model) * f.vol.toNat

end Sys2Proof.Machine
end

