-- ==== Sys2Proof/Machine/Waveform.lean ====
section
/-! DEFINITION. The waveform generators: 40_waveform.md R70 to R98, and the oscillator loop of 45_sid_top.md R162. -/

namespace Sys2Proof.Machine

/-- FREQ_LO write (R70). -/
def WaveState.writeFreqLo (w : WaveState) (d : Byte) : WaveState := { w with freq := withFreqLo w.freq d }

/-- FREQ_HI write (R71). -/
def WaveState.writeFreqHi (w : WaveState) (d : Byte) : WaveState := { w with freq := withFreqHi w.freq d }

/-- PW_LO write (R72). -/
def WaveState.writePwLo (w : WaveState) (d : Byte) : WaveState := { w with pw := withPwLo w.pw d }

/-- PW_HI write (R73). -/
def WaveState.writePwHi (w : WaveState) (d : Byte) : WaveState := { w with pw := withPwHi w.pw d }

/-- `WaveCtrl`, part 1: the waveform fields (R75). -/
def WaveState.writeCtrlFields (w : WaveState) (d : Byte) : WaveState :=
  { w with waveform := ctrlWaveform d, ring := ctrlRing d, sync := ctrlSync d }

/-- `WaveCtrl`, part 2: the test bit (R76). -/
def WaveState.writeTest (p : Params) (w : WaveState) (t : Bool) : WaveState :=
  if rises w.test t then
    { w with acc := 0, shift := if p.testClearsNoise then 0 else w.shift, test := t }
  else if falls w.test t then { w with shift := noiseReload, test := t }
  else { w with test := t }

/-- `WaveCtrl`: a CTRL byte reaches the waveform generator (R74). -/
def WaveState.writeCtrl (p : Params) (w : WaveState) (d : Byte) : WaveState :=
  (w.writeCtrlFields d).writeTest p (ctrlTest d)

/-- `LfsrStep` (R83). -/
def lfsrStep (x : BitVec 23) : BitVec 23 :=
  (x <<< 1) ||| (BitVec.ofBool (x.getLsbD 22 ^^ x.getLsbD 17)).setWidth 23

/-- `k` steps of the noise register. -/
def lfsrSteps : Nat → BitVec 23 → BitVec 23
  | 0, x => x
  | k + 1, x => lfsrSteps k (lfsrStep x)

/-- How often bit 19 of the accumulator goes from 0 to 1 while it advances by `dacc` from `prev` (R82). -/
def noiseClocks (prev dacc : Nat) : Nat :=
  (floorDiv (prev + dacc - 0x80000) 0x100000 - floorDiv (prev - 0x80000) 0x100000).toNat

/-- `WaveAdvance` (R81, R82). -/
def WaveState.advance (w : WaveState) (n : Nat) : WaveState :=
  let dacc := n * w.freq.toNat
  let acc := BitVec.ofNat 24 (w.acc.toNat + dacc)
  { w with
    acc := acc
    msbRising := msbRises w.acc acc
    shift := lfsrSteps (noiseClocks w.acc.toNat dacc) w.shift }

/-- `WaveClock`: a no-op while the test bit is set (R80). -/
def WaveState.clock (w : WaveState) (n : Nat) : WaveState := if w.test then w else w.advance n

/-- The triangle output of a generator whose sync source has accumulator `srcAcc` (R87). -/
def WaveState.tri (w : WaveState) (srcAcc : BitVec 24) : BitVec 12 :=
  let m := if w.ring then w.acc ^^^ srcAcc else w.acc
  if m.getLsbD 23 then (((w.acc ^^^ 0xFFFFFF) >>> 11) &&& 0xFFE).setWidth 12
  else ((w.acc >>> 11) &&& 0xFFE).setWidth 12

/-- The sawtooth output (R88). -/
def WaveState.saw (w : WaveState) : BitVec 12 := (w.acc >>> 12).setWidth 12

/-- The pulse output (R89). -/
def WaveState.pulse (w : WaveState) : BitVec 12 :=
  if w.test || decide (w.pw ≤ w.saw) then 0xFFF else 0x000

/-- The noise output: eight shift-register bits in output bits 11 to 4 (R90). -/
def WaveState.noise (p : Params) (w : WaveState) : BitVec 12 :=
  let tap (j : Fin 8) : BitVec 1 := BitVec.ofBool (w.shift.getLsbD (p.noiseTap j))
  tap 0 ++ tap 1 ++ tap 2 ++ tap 3 ++ tap 4 ++ tap 5 ++ tap 6 ++ tap 7 ++ (0 : BitVec 4)

/-- An 8-bit table entry as a 12-bit output: shifted left by 4 (R91). -/
def tableOutput (b : Byte) : BitVec 12 := b.setWidth 12 <<< 4

/-- The 12-bit output of a generator whose sync source has accumulator `srcAcc` (R85 to R95). -/
def WaveState.out (p : Params) (w : WaveState) (srcAcc : BitVec 24) : BitVec 12 :=
  match w.waveform.toNat with
  | 0x0 => 0
  | 0x1 => w.tri srcAcc
  | 0x2 => w.saw
  | 0x3 => tableOutput (p.waveST p.model w.saw)
  | 0x4 => w.pulse
  | 0x5 => tableOutput (p.wavePT p.model (w.tri srcAcc >>> 1)) &&& w.pulse
  | 0x6 => tableOutput (p.wavePS p.model w.saw) &&& w.pulse
  | 0x7 => tableOutput (p.wavePST p.model w.saw) &&& w.pulse
  | 0x8 => w.noise p
  | _ => 0

/-- `out(v)`: ring modulation reads the sync source's accumulator (R85, R87). -/
def State.out (p : Params) (s : State) (v : VoiceId) : BitVec 12 :=
  (s.wave v).out p (s.wave (syncSource v)).acc

/-- `WaveClock(v, n)`. -/
def State.waveClock (s : State) (v : VoiceId) (n : Nat) : State := s.setWave v ((s.wave v).clock n)

/-- `Synchronize(v)` (R96). -/
def State.synchronize (s : State) (v : VoiceId) : State :=
  if syncResets (s.wave v).msbRising (s.wave (syncDest v)).sync (s.wave v).sync (s.wave (syncSource v)).msbRising
  then s.setWave (syncDest v) { s.wave (syncDest v) with acc := 0 }
  else s

/-- `Substep(n)`: all three oscillators are clocked before any is synchronized (45_sid_top.md R163). -/
def State.substep (s : State) (n : Nat) : State :=
  ((((((s.waveClock 0 n).waveClock 1 n).waveClock 2 n).synchronize 0).synchronize 1).synchronize 2)

/-- The distance of an accumulator to its next flip of bit 23 (R162). -/
def WaveState.edge (w : WaveState) : Nat :=
  (if w.acc.getLsbD 23 then 0x1000000 else 0x800000) - w.acc.toNat

/-- `dt_min` after voice `i` has bounded it: only a sync source with a nonzero frequency does (R162). -/
def State.boundSpan (s : State) (i : VoiceId) (n : Nat) : Nat :=
  if (s.wave (syncDest i)).sync ∧ (s.wave i).freq ≠ 0
  then min n (ceilDiv (s.wave i).edge (s.wave i).freq.toNat)
  else n

/-- `dt_min` of one turn of the oscillator loop (R162). -/
def State.oscSpan (s : State) (dt : Nat) : Nat := s.boundSpan 2 (s.boundSpan 1 (s.boundSpan 0 dt))

/-- `OscLoop(dt)` (R162). -/
def State.oscLoop (s : State) (dt : Nat) : State :=
  go dt dt s
where
  /-- The loop on `fuel`: every substep takes at least one cycle, so `dt` turns are enough. -/
  go : Nat → Nat → State → State
    | 0, _, s => s
    | fuel + 1, dt, s => if dt = 0 then s else go fuel (dt - s.oscSpan dt) (s.substep (s.oscSpan dt))

end Sys2Proof.Machine
end

