-- ==== Sys2Proof/Machine/SidTop.lean ====
section
/-! DEFINITION. The top level: voice outputs (42_voice.md R120, R121) and the host operations of 45_sid_top.md on the
whole block, from which every meaning is built. -/

namespace Sys2Proof.Machine

/-- `voice_out(v)` (R120): a muted voice returns 0 (R121). -/
def State.voiceOut (p : Params) (s : State) (v : VoiceId) : Int :=
  if p.mute v then 0
  else ((s.out p v).toNat - waveZero p.model) * (s.env v).level.toNat + voiceDc p.model

/-- A write that reaches the waveform generator of voice `v`: the bus latch and the register's rule (R150, R151). -/
def State.writeWave (p : Params) (s : State) (v : VoiceId) (d : Byte) (f : WaveState → Byte → WaveState) : State :=
  (s.busLatch p d).setWave v (f (s.wave v) d)

/-- A write that reaches the envelope generator of voice `v` (R150, R151). -/
def State.writeEnv (p : Params) (s : State) (v : VoiceId) (d : Byte) (f : EnvState → Byte → EnvState) : State :=
  (s.busLatch p d).setEnv v (f (s.env v) d)

/-- CTRL write: the waveform generator's part and the gate (40_waveform.md R74), with the bus latch. -/
def State.writeCtrl (p : Params) (s : State) (v : VoiceId) (d : Byte) : State :=
  (s.busLatch p d).setVoice v
    { wave := (s.wave v).writeCtrl p d, env := (s.env v).writeGate (ctrlGate d) }

/-- A write that reaches the filter (R150, R151). -/
def State.writeFilter (p : Params) (s : State) (d : Byte) (f : FilterState → Byte → FilterState) : State :=
  (s.busLatch p d).setFilter (f s.filter d)

/-- OSC3: the upper 8 bits of voice index 2's waveform output (R154). -/
def State.osc3 (p : Params) (s : State) : Byte := (s.out p 2 >>> 4).setWidth 8

/-- ENV3: voice index 2's envelope level (R155). -/
def State.env3 (s : State) : Byte := (s.env 2).level

/-- `RegWrite(off, d)`: the dispatch of R150, offsets 0x19 to 0x1F latching the bus only (R152). -/
def State.regWrite (p : Params) (s : State) (off : Offset) (d : Byte) : State :=
  if off.toNat ≤ 0x14 then
    let v : VoiceId := Fin.ofNat 3 (off.toNat / 7)
    match off.toNat % 7 with
    | 0 => s.writeWave p v d WaveState.writeFreqLo
    | 1 => s.writeWave p v d WaveState.writeFreqHi
    | 2 => s.writeWave p v d WaveState.writePwLo
    | 3 => s.writeWave p v d WaveState.writePwHi
    | 4 => s.writeCtrl p v d
    | 5 => s.writeEnv p v d EnvState.writeAd
    | _ => s.writeEnv p v d EnvState.writeSr
  else
    match off.toNat with
    | 0x15 => s.writeFilter p d FilterState.writeFcLo
    | 0x16 => s.writeFilter p d FilterState.writeFcHi
    | 0x17 => s.writeFilter p d FilterState.writeResFilt
    | 0x18 => s.writeFilter p d FilterState.writeModeVol
    | _ => s.busLatch p d

/-- `RegRead(off)` (R153 to R156). -/
def State.regRead (p : Params) (s : State) (off : Offset) : Byte :=
  match off.toNat with
  | 0x19 => 0
  | 0x1A => 0
  | 0x1B => s.osc3 p
  | 0x1C => s.env3
  | _ => s.busValue

/-- Step 4 of a clock operation: the voice outputs and `ext_in` are taken once (R164, 42_voice.md R123). -/
def State.filterStage (p : Params) (s : State) (dt : Nat) : State :=
  s.setFilter (s.filter.clock p dt (s.voiceOut p 0) (s.voiceOut p 1) (s.voiceOut p 2) p.extIn)

/-- Step 5 of a clock operation: the filter's output is taken once (R165). -/
def State.extStage (p : Params) (s : State) (dt : Nat) : State :=
  s.setExt (s.ext.clock p dt (s.filter.out p))

/-- `Clock(dt)`: bus aging, envelopes, oscillators, filter, external filter, in this order; no cycle, no effect
(R159). -/
def State.clock (p : Params) (s : State) (dt : Nat) : State :=
  if dt = 0 then s
  else ((((s.busAge dt).envClockAll dt).oscLoop dt).filterStage p dt).extStage p dt

/-- `Reset()`: every state field of the block takes its reset value (R158). The host's stream and what it was given
are no part of the block (log entries 1 and 3). -/
def State.resetBlock (s : State) : State :=
  { State.reset with pending := s.pending, returned := s.returned }

end Sys2Proof.Machine
end

