-- ==== Sys2Proof/Machine/BusWrites.lean ====
section
/-! DEFINITION. The meanings of the WRITE operations to offsets that hold no written register (45_sid_top.md R152). -/

namespace Sys2Proof.Machine

/-- `WR` to offset 0x19: the bus latch only (R152). -/
def execWrLatch19 (d : Byte) (s : State) : Result := .next (s.busLatch params d)

/-- `WR` to offset 0x1A or 0x1B: the bus latch only, whichever the offset (R152). -/
def execWrLatch1A1B (_off : Offset) (d : Byte) (s : State) : Result := .next (s.busLatch params d)

/-- `WR` to an offset of 0x1C to 0x1F: the bus latch only, whichever the offset (R152). -/
def execWrLatch1C1F (_off : Offset) (d : Byte) (s : State) : Result := .next (s.busLatch params d)

end Sys2Proof.Machine
end

