-- ==== Sys2Proof/Machine/ClockAndSystem.lean ====
section
/-! DEFINITION. The meanings of CLOCK and of the SYS operations RESET and OUTPUT (45_sid_top.md R157 to R159). -/

namespace Sys2Proof.Machine

/-- `CLK`: `dt` SID cycles, for every natural `dt` (R159; log entry 16). -/
def execClk (dt : Nat) (s : State) : Result := .next (s.clock params dt)

/-- `RST` (R158). -/
def execRst (s : State) : Result := .next s.resetBlock

/-- `OUT`: returns the sample and changes nothing else (R157). -/
def execOut (s : State) : Result := .next (s.deliver (.sample s.ext.sample))

end Sys2Proof.Machine
end

