-- ==== Sys2Proof/Machine/FilterWrites.lean ====
section
/-! DEFINITION. The meanings of the WRITE operations of the filter and mixer (45_sid_top.md R150). -/

namespace Sys2Proof.Machine

/-- `WR FC_LO` (43_filter.md R125). -/
def execWrFcLo (d : Byte) (s : State) : Result :=
  .next (s.writeFilter params d FilterState.writeFcLo)

/-- `WR FC_HI` (43_filter.md R126). -/
def execWrFcHi (d : Byte) (s : State) : Result :=
  .next (s.writeFilter params d FilterState.writeFcHi)

/-- `WR RES_FILT` (43_filter.md R127). -/
def execWrResFilt (d : Byte) (s : State) : Result :=
  .next (s.writeFilter params d FilterState.writeResFilt)

/-- `WR MODE_VOL` (43_filter.md R128). -/
def execWrModeVol (d : Byte) (s : State) : Result :=
  .next (s.writeFilter params d FilterState.writeModeVol)

end Sys2Proof.Machine
end

