-- ==== Sys2Proof/Machine/Reads.lean ====
section
/-! DEFINITION. The meanings of the READ operations: each returns a byte and changes nothing else (45_sid_top.md R153 to R156, 20_memory.md R46). -/

namespace Sys2Proof.Machine

/-- `RD POTX`: stubbed 0 (R153). -/
def execRdPotX (s : State) : Result := .next (s.deliver (.byte 0))

/-- `RD POTY`: stubbed 0 (R153). -/
def execRdPotY (s : State) : Result := .next (s.deliver (.byte 0))

/-- `RD OSC3` (R154). -/
def execRdOsc3 (s : State) : Result := .next (s.deliver (.byte (s.osc3 params)))

/-- `RD ENV3` (R155). -/
def execRdEnv3 (s : State) : Result := .next (s.deliver (.byte s.env3))

/-- `RD` of an offset of 0x00 to 0x0F: the bus value, whichever the offset (R156). -/
def execRdBus00to0F (_off : Offset) (s : State) : Result := .next (s.deliver (.byte s.busValue))

/-- `RD` of an offset of 0x10 to 0x17: the bus value, whichever the offset (R156). -/
def execRdBus10to17 (_off : Offset) (s : State) : Result := .next (s.deliver (.byte s.busValue))

/-- `RD` of offset 0x18: the bus value (R156). -/
def execRdBus18 (s : State) : Result := .next (s.deliver (.byte s.busValue))

/-- `RD` of offset 0x1D: the bus value (R156). -/
def execRdBus1D (s : State) : Result := .next (s.deliver (.byte s.busValue))

/-- `RD` of offset 0x1E or 0x1F: the bus value, whichever the offset (R156). -/
def execRdBus1E1F (_off : Offset) (s : State) : Result := .next (s.deliver (.byte s.busValue))

end Sys2Proof.Machine
end

