-- ==== Sys2Proof/Machine/VoiceWrites.lean ====
section
/-! DEFINITION. The meanings of the WRITE operations of the three voices (45_sid_top.md R150). -/

namespace Sys2Proof.Machine

/-- `WR FREQ_LO1` (40_waveform.md R70). -/
def execWrFreqLo1 (d : Byte) (s : State) : Result := .next (s.writeWave params 0 d WaveState.writeFreqLo)

/-- `WR FREQ_HI1` (40_waveform.md R71). -/
def execWrFreqHi1 (d : Byte) (s : State) : Result := .next (s.writeWave params 0 d WaveState.writeFreqHi)

/-- `WR PW_LO1` (40_waveform.md R72). -/
def execWrPwLo1 (d : Byte) (s : State) : Result := .next (s.writeWave params 0 d WaveState.writePwLo)

/-- `WR PW_HI1` (40_waveform.md R73). -/
def execWrPwHi1 (d : Byte) (s : State) : Result := .next (s.writeWave params 0 d WaveState.writePwHi)

/-- `WR CTRL1` (40_waveform.md R74). -/
def execWrCtrl1 (d : Byte) (s : State) : Result := .next (s.writeCtrl params 0 d)

/-- `WR AD1` (41_envelope.md R101). -/
def execWrAd1 (d : Byte) (s : State) : Result := .next (s.writeEnv params 0 d EnvState.writeAd)

/-- `WR SR1` (41_envelope.md R102). -/
def execWrSr1 (d : Byte) (s : State) : Result := .next (s.writeEnv params 0 d EnvState.writeSr)

/-- `WR FREQ_LO2` (40_waveform.md R70). -/
def execWrFreqLo2 (d : Byte) (s : State) : Result := .next (s.writeWave params 1 d WaveState.writeFreqLo)

/-- `WR FREQ_HI2` (40_waveform.md R71). -/
def execWrFreqHi2 (d : Byte) (s : State) : Result := .next (s.writeWave params 1 d WaveState.writeFreqHi)

/-- `WR PW_LO2` (40_waveform.md R72). -/
def execWrPwLo2 (d : Byte) (s : State) : Result := .next (s.writeWave params 1 d WaveState.writePwLo)

/-- `WR PW_HI2` (40_waveform.md R73). -/
def execWrPwHi2 (d : Byte) (s : State) : Result := .next (s.writeWave params 1 d WaveState.writePwHi)

/-- `WR CTRL2` (40_waveform.md R74). -/
def execWrCtrl2 (d : Byte) (s : State) : Result := .next (s.writeCtrl params 1 d)

/-- `WR AD2` (41_envelope.md R101). -/
def execWrAd2 (d : Byte) (s : State) : Result := .next (s.writeEnv params 1 d EnvState.writeAd)

/-- `WR SR2` (41_envelope.md R102). -/
def execWrSr2 (d : Byte) (s : State) : Result := .next (s.writeEnv params 1 d EnvState.writeSr)

/-- `WR FREQ_LO3` (40_waveform.md R70). -/
def execWrFreqLo3 (d : Byte) (s : State) : Result := .next (s.writeWave params 2 d WaveState.writeFreqLo)

/-- `WR FREQ_HI3` (40_waveform.md R71). -/
def execWrFreqHi3 (d : Byte) (s : State) : Result := .next (s.writeWave params 2 d WaveState.writeFreqHi)

/-- `WR PW_LO3` (40_waveform.md R72). -/
def execWrPwLo3 (d : Byte) (s : State) : Result := .next (s.writeWave params 2 d WaveState.writePwLo)

/-- `WR PW_HI3` (40_waveform.md R73). -/
def execWrPwHi3 (d : Byte) (s : State) : Result := .next (s.writeWave params 2 d WaveState.writePwHi)

/-- `WR CTRL3` (40_waveform.md R74). -/
def execWrCtrl3 (d : Byte) (s : State) : Result := .next (s.writeCtrl params 2 d)

/-- `WR AD3` (41_envelope.md R101). -/
def execWrAd3 (d : Byte) (s : State) : Result := .next (s.writeEnv params 2 d EnvState.writeAd)

/-- `WR SR3` (41_envelope.md R102). -/
def execWrSr3 (d : Byte) (s : State) : Result := .next (s.writeEnv params 2 d EnvState.writeSr)

end Sys2Proof.Machine
end

