-- ==== Sys2Proof/Machine/Dispatch.lean ====
section
/-! DEFINITION. The dispatch: one arm per operation. -/

namespace Sys2Proof.Machine

def exec (i : Instr) (s : State) : Host.Outcome State Fault Refusal :=
  match i with
  | .wrFreqLo1 d => Sys2Proof.Machine.execWrFreqLo1 d s
  | .wrFreqHi1 d => Sys2Proof.Machine.execWrFreqHi1 d s
  | .wrPwLo1 d => Sys2Proof.Machine.execWrPwLo1 d s
  | .wrPwHi1 d => Sys2Proof.Machine.execWrPwHi1 d s
  | .wrCtrl1 d => Sys2Proof.Machine.execWrCtrl1 d s
  | .wrAd1 d => Sys2Proof.Machine.execWrAd1 d s
  | .wrSr1 d => Sys2Proof.Machine.execWrSr1 d s
  | .wrFreqLo2 d => Sys2Proof.Machine.execWrFreqLo2 d s
  | .wrFreqHi2 d => Sys2Proof.Machine.execWrFreqHi2 d s
  | .wrPwLo2 d => Sys2Proof.Machine.execWrPwLo2 d s
  | .wrPwHi2 d => Sys2Proof.Machine.execWrPwHi2 d s
  | .wrCtrl2 d => Sys2Proof.Machine.execWrCtrl2 d s
  | .wrAd2 d => Sys2Proof.Machine.execWrAd2 d s
  | .wrSr2 d => Sys2Proof.Machine.execWrSr2 d s
  | .wrFreqLo3 d => Sys2Proof.Machine.execWrFreqLo3 d s
  | .wrFreqHi3 d => Sys2Proof.Machine.execWrFreqHi3 d s
  | .wrPwLo3 d => Sys2Proof.Machine.execWrPwLo3 d s
  | .wrPwHi3 d => Sys2Proof.Machine.execWrPwHi3 d s
  | .wrCtrl3 d => Sys2Proof.Machine.execWrCtrl3 d s
  | .wrAd3 d => Sys2Proof.Machine.execWrAd3 d s
  | .wrSr3 d => Sys2Proof.Machine.execWrSr3 d s
  | .wrFcLo d => Sys2Proof.Machine.execWrFcLo d s
  | .wrFcHi d => Sys2Proof.Machine.execWrFcHi d s
  | .wrResFilt d => Sys2Proof.Machine.execWrResFilt d s
  | .wrModeVol d => Sys2Proof.Machine.execWrModeVol d s
  | .wrLatch19 d => Sys2Proof.Machine.execWrLatch19 d s
  | .wrLatch1A1B off d => Sys2Proof.Machine.execWrLatch1A1B off d s
  | .wrLatch1C1F off d => Sys2Proof.Machine.execWrLatch1C1F off d s
  | .rdPotX => Sys2Proof.Machine.execRdPotX s
  | .rdPotY => Sys2Proof.Machine.execRdPotY s
  | .rdOsc3 => Sys2Proof.Machine.execRdOsc3 s
  | .rdEnv3 => Sys2Proof.Machine.execRdEnv3 s
  | .rdBus00to0F off => Sys2Proof.Machine.execRdBus00to0F off s
  | .rdBus10to17 off => Sys2Proof.Machine.execRdBus10to17 off s
  | .rdBus18 => Sys2Proof.Machine.execRdBus18 s
  | .rdBus1D => Sys2Proof.Machine.execRdBus1D s
  | .rdBus1E1F off => Sys2Proof.Machine.execRdBus1E1F off s
  | .clk dt => Sys2Proof.Machine.execClk dt s
  | .rst => Sys2Proof.Machine.execRst s
  | .out => Sys2Proof.Machine.execOut s

end Sys2Proof.Machine
end

