-- ==== Sys2Proof/Machine/Step.lean ====
section
/-! DEFINITION. One step: take the host's next command word, decode it, run it. -/

namespace Sys2Proof.Machine

/-- One step of the machine. With no word issued the block does not move (00_scope.md R5, 60_exceptions.md R180;
log entry 2); a reserved word is refused before it has any effect (R171); any other word's operation runs whole
(20_memory.md R47, R48). -/
def step (s : State) : Host.Outcome State Fault Refusal :=
  match s.take with
  | none => .next s
  | some (w, t) =>
    match decode w with
    | .error why => .refused (.reserved w why)
    | .ok i => exec i t

/-- The host issues the instruction whose low `nbits` bits are `w` as the very next command word (log entry 1). -/
def State.withFetchWord (s : State) (nbits w : Nat) : State := s.issue (tableWord nbits w)

end Sys2Proof.Machine
end

