-- ==== Sys2Proof/Safety.lean ====
section
/-! DEFINITION. What counts as a legal state and as a safe run: the invariants of 10_state.md. -/

namespace Sys2Proof.Machine

/-- While `test` is set the accumulator stays 0 (R15). The ranges of `acc` and `shift` are their types. -/
abbrev WaveState.Legal (w : WaveState) : Prop := w.test = true → w.acc = 0

/-- The rate field an envelope's phase selects (R18). -/
def EnvState.rateField (e : EnvState) : BitVec 4 :=
  match e.state with
  | .attack => e.attack
  | .decaySustain => e.decay
  | .release => e.release

/-- The ranges and relations of an envelope's fields (R17, R18, R19). -/
abbrev EnvState.Legal (e : EnvState) : Prop :=
  e.rateCounter ≤ 0x7FFF
  ∧ e.ratePeriod = rate e.rateField
  ∧ e.expPeriod ∈ [1, 2, 4, 8, 16, 30]
  ∧ e.expCounter < e.expPeriod
  ∧ (e.holdZero = true → e.level = 0)

/-- The bus latch: its time is a natural of at most `BUS_TTL`, and a byte whose time is over reads 0 (R151, R160). -/
abbrev State.BusLegal (s : State) : Prop :=
  0 ≤ s.busTtl ∧ s.busTtl ≤ defaultBusTtl ∧ (s.busTtl = 0 → s.busValue = 0)

/-- The invariant of the machine. -/
abbrev State.Legal (s : State) : Prop :=
  (s.voice0.wave.Legal ∧ s.voice0.env.Legal)
  ∧ (s.voice1.wave.Legal ∧ s.voice1.env.Legal)
  ∧ (s.voice2.wave.Legal ∧ s.voice2.env.Legal)
  ∧ s.BusLegal

/-- A safe outcome: the machine goes on, in a legal state. The block faults never (60_exceptions.md R170). -/
def SafeOutcome : Host.Outcome State Fault Refusal → Prop
  | .next t => t.Legal
  | .fault _ => False
  | .refused _ => False

end Sys2Proof.Machine
end

