-- ==== Sys2Proof/Certificates/Slice0/Obligations.lean ====
section
/-! DEFINITION. The statements for the provers, each with the rules of spec/ it formalises. The helper definitions
write the spec's own formulas, apart from the model's. -/

namespace Sys2Proof.Claims

open Sys2Proof.Machine

/-- A WRITE of byte `d` after which voice `v` is `x`: the bus latch of R151, and nothing else. -/
def wrote (s : State) (d : Byte) (v : VoiceId) (x : Voice) : State :=
  { s with
    busValue := d
    busTtl := 0x2000
    voice0 := if v = 0 then x else s.voice0
    voice1 := if v = 1 then x else s.voice1
    voice2 := if v = 2 then x else s.voice2 }

/-- The rule of one voice register: words `hi:d` decode to `i d`, and `i d` answers the state in which the bus holds
`d` and voice `v` is what `f` says, everything else unchanged. -/
def VoiceWrite (hi : Byte) (i : Byte → Instr) (v : VoiceId) (f : Voice → Byte → Voice) : Prop :=
  ∀ d : Byte, decode (hi ++ d) = .ok (i d) ∧ ∀ s : State, exec (i d) s = .next (wrote s d v (f (s.voice v) d))

/-- The rule of one filter register, in the same form. -/
def FilterWrite (hi : Byte) (i : Byte → Instr) (f : FilterState → Byte → FilterState) : Prop :=
  ∀ d : Byte, decode (hi ++ d) = .ok (i d) ∧
    ∀ s : State, exec (i d) s = .next { s with busValue := d, busTtl := 0x2000, filter := f s.filter d }

/-- A READ that returns `b`: one byte more is returned, and nothing else changes (R46). -/
def returnedByte (s : State) (b : Byte) : State := { s with returned := s.returned ++ [.byte b] }

/-- `RATE[n]` as R8 lists it. -/
def ratePeriodOf (n : BitVec 4) : Nat :=
  match n.toNat with
  | 0 => 9
  | 1 => 32
  | 2 => 63
  | 3 => 95
  | 4 => 149
  | 5 => 220
  | 6 => 267
  | 7 => 313
  | 8 => 392
  | 9 => 977
  | 10 => 1954
  | 11 => 3126
  | 12 => 3907
  | 13 => 11720
  | 14 => 19532
  | _ => 31251

/-- `EnvGate(v, g)` of R100. -/
def gateWritten (e : EnvState) (g : Bool) : EnvState :=
  { e with
    gate := g
    state := if !e.gate && g then .attack else if e.gate && !g then .release else e.state
    ratePeriod :=
      if !e.gate && g then ratePeriodOf e.attack else if e.gate && !g then ratePeriodOf e.release else e.ratePeriod
    holdZero := if !e.gate && g then false else e.holdZero }

/-- `WaveCtrl(v, d)` of R75 and R76, with `TEST_CLEARS_NOISE` false. -/
def controlWritten (w : WaveState) (d : Byte) : WaveState :=
  { w with
    waveform := (d >>> 4).setWidth 4
    ring := d.getLsbD 2
    sync := d.getLsbD 1
    test := d.getLsbD 3
    acc := if d.getLsbD 3 && !w.test then 0 else w.acc
    shift := if !d.getLsbD 3 && w.test then 0x7FFFF8 else w.shift }

/-- The 12-bit triangle of R87 on naturals. -/
def triangle (ring : Bool) (acc src : Nat) : Nat :=
  if 0x800000 ≤ (if ring then acc ^^^ src else acc) then ((acc ^^^ 0xFFFFFF) / 2048) &&& 0xFFE
  else (acc / 2048) &&& 0xFFE

/-- The 12-bit pulse of R89 on naturals. -/
def pulse (test : Bool) (acc pw : Nat) : Nat := if test = true ∨ pw ≤ acc / 4096 then 0xFFF else 0

/-- The 12-bit noise output of R90 on naturals, with the default taps of R6. -/
def noise (shift : Nat) : Nat :=
  (shift.testBit 22).toNat * 2 ^ 11 + (shift.testBit 20).toNat * 2 ^ 10 + (shift.testBit 16).toNat * 2 ^ 9
    + (shift.testBit 13).toNat * 2 ^ 8 + (shift.testBit 11).toNat * 2 ^ 7 + (shift.testBit 7).toNat * 2 ^ 6
    + (shift.testBit 4).toNat * 2 ^ 5 + (shift.testBit 2).toNat * 2 ^ 4

/-- `out(v)` of R85 to R95 on naturals, for a generator `w` whose sync source has accumulator `src`. -/
def waveOutput (w : WaveState) (src : Nat) : Nat :=
  let acc := w.acc.toNat
  let tri := triangle w.ring acc src
  let pul := pulse w.test acc w.pw.toNat
  match w.waveform.toNat with
  | 0x1 => tri
  | 0x2 => acc / 4096
  | 0x3 => (Config.waveST Config.model (BitVec.ofNat 12 (acc / 4096))).toNat * 16
  | 0x4 => pul
  | 0x5 => (Config.wavePT Config.model (BitVec.ofNat 12 (tri / 2))).toNat * 16 &&& pul
  | 0x6 => (Config.wavePS Config.model (BitVec.ofNat 12 (acc / 4096))).toNat * 16 &&& pul
  | 0x7 => (Config.wavePST Config.model (BitVec.ofNat 12 (acc / 4096))).toNat * 16 &&& pul
  | 0x8 => noise w.shift.toNat
  | _ => 0

/-- A reserved command word, by the list of R59. -/
def ReservedPattern (w : Nat) : Prop :=
  (w / 2 ^ 14 = 0 ∧ w / 2 ^ 13 % 2 = 1)
  ∨ (w / 2 ^ 14 = 1 ∧ w / 2 ^ 13 % 2 = 1)
  ∨ (w / 2 ^ 14 = 0 ∧ w % 2 ^ 8 ≠ 0)
  ∨ (w / 2 ^ 14 = 3 ∧ 2 ≤ w % 2 ^ 14)

/-- One cycle of an envelope as R111 words it: the counter moves by one, with the wrap of R104, and the envelope
steps when it equals the rate period. -/
def envCycle (e : EnvState) : EnvState :=
  let c := if e.rateCounter + 1 ≥ 0x8000 then e.rateCounter + 1 - 0x7FFF else e.rateCounter + 1
  if c = e.ratePeriod then { e with rateCounter := c }.step else { e with rateCounter := c }

/-- The exponential period and the freeze that the level after an action brings (R107). -/
def periodAfter (level : Byte) (old : Nat) : Nat :=
  if level = 0xFF then 1 else if level = 0x5D then 2 else if level = 0x36 then 4 else if level = 0x1A then 8
  else if level = 0x0E then 16 else if level = 0x06 then 30 else if level = 0x00 then 1 else old

/-- The level after an action (R106, R108, R109). -/
def levelAfter (e : EnvState) : Byte :=
  match e.state with
  | .attack => e.level + 1
  | .decaySustain => if e.level.toNat = e.sustain.toNat * 17 then e.level else e.level - 1
  | .release => e.level - 1

/-- `LfsrStep` in the source's words: bit 0 is the XOR of bits 22 and 17 (R83). -/
def lfsr (x : BitVec 23) : BitVec 23 := ((x <<< 1) &&& 0x7FFFFF) ||| (((x >>> 22) ^^^ (x >>> 17)) &&& 1)

/-- The three `Synchronize` calls of a substep (R96, R163), on the generators `w` after their clock: voice `v` is the
destination of voice `v + 2`, whose own source is voice `v + 1` (R10). -/
def synced (w : VoiceId → WaveState) (v : VoiceId) : WaveState :=
  if (w (v + 2)).msbRising = true ∧ (w v).sync = true
      ∧ ¬ ((w (v + 2)).sync = true ∧ (w (v + 1)).msbRising = true)
  then { w v with acc := 0 } else w v

/-- One cycle of a generator (R80 to R83): under test nothing moves. A step of the accumulator is below `2^16`, so
bits 23 and 19 each rise at most once. -/
def waveCycle (w : WaveState) : WaveState :=
  let acc : BitVec 24 := w.acc + w.freq.setWidth 24
  if w.test then w
  else { w with
    acc := acc
    msbRising := !w.acc.getLsbD 23 && acc.getLsbD 23
    shift := if !w.acc.getLsbD 19 && acc.getLsbD 19 then lfsr w.shift else w.shift }

/-- One cycle of the three generators: clocked, then synchronized (R163). -/
def oscillatorCycle (w : VoiceId → WaveState) : VoiceId → WaveState := synced fun v => waveCycle (w v)

/-- The number of integers `x` with `prev < x ≤ prev + dacc` and `x mod 2^20 = 2^19` (R82). -/
def bit19Rises (prev dacc : Nat) : Nat :=
  ((Finset.Ioc prev (prev + dacc)).filter fun x => x % 2 ^ 20 = 2 ^ 19).card

/-- Voice `i` is a sync source that moves: its destination has sync enabled and its frequency is not 0 (R162). -/
def SyncDriver (s : State) (i : VoiceId) : Prop := (s.wave (syncDest i)).sync = true ∧ (s.wave i).freq ≠ 0

/-- Voice `v` holds `msb_rising` of a span before its test bit was set (R98). -/
def StaleLatch (s : State) (v : VoiceId) : Prop := (s.wave v).test = true ∧ (s.wave v).msbRising = true

/-- The operation is a CTRL write to voice `v`, of byte `d`. -/
def ctrlOf (v : VoiceId) (d : Byte) : Instr :=
  match v with
  | 0 => .wrCtrl1 d
  | 1 => .wrCtrl2 d
  | 2 => .wrCtrl3 d

/-- The reset record of R28, before the host's stream. -/
def resetWave : WaveState :=
  { acc := 0, shift := 0x7FFFF8, freq := 0, pw := 0, waveform := 0, test := false, ring := false, sync := false,
    msbRising := false }

/-- The reset record of R28 for an envelope. -/
def resetEnv : EnvState :=
  { rateCounter := 0, ratePeriod := 9, expCounter := 0, expPeriod := 1, level := 0, attack := 0, decay := 0,
    sustain := 0, release := 0, gate := false, state := .release, holdZero := true }

/-- The state of R28, with the host's stream `pending` and the values `returned` so far. -/
def resetState (pending : List CommandWord) (returned : List Returned) : State :=
  { voice0 := ⟨resetWave, resetEnv⟩, voice1 := ⟨resetWave, resetEnv⟩, voice2 := ⟨resetWave, resetEnv⟩,
    filter := ⟨0, 0, 0, 0, 0, false, 0, 0, 0, 0⟩, ext := ⟨0, 0, 0⟩, busValue := 0, busTtl := 0,
    pending := pending, returned := returned }

/-- `v_0`, `v_1`, `v_2` and `xe` of R132. -/
def scaled (f : FilterState) (o0 o1 o2 x : Int) : Int × Int × Int × Int :=
  (o0 / 128, o1 / 128, if f.voice3off = true ∧ f.filt.getLsbD 2 = false then 0 else o2 / 128, x / 128)

/-- The sum of the inputs whose route bit is `b` (R133). -/
def routeSum (f : FilterState) (b : Bool) (m : Int × Int × Int × Int) : Int :=
  (if f.filt.getLsbD 0 = b then m.1 else 0) + (if f.filt.getLsbD 1 = b then m.2.1 else 0)
    + (if f.filt.getLsbD 2 = b then m.2.2.1 else 0) + (if f.filt.getLsbD 3 = b then m.2.2.2 else 0)

/-- One chunk of `c` cycles of the enabled filter (R135), from coefficient `w` and input `vi`. -/
def filterChunk (w q vi : Int) (c : Nat) (f : FilterState) : FilterState :=
  let w0dt := w * c / 64
  let vbp := f.vbp - w0dt * f.vhp / 16384
  let vlp := f.vlp - w0dt * f.vbp / 16384
  { f with vbp := vbp, vlp := vlp, vhp := vbp * q / 1024 - vlp - vi }

end Sys2Proof.Claims

open Sys2Proof Sys2Proof.Machine Sys2Proof.Claims

/-- The worked example of R60 and words of 95_test_vectors.md section 2. -/
def Obligations.WorkedExampleWordsDecode : Prop :=
  decode 0x4421 = .ok (.wrCtrl1 0x21) ∧ decode 0x1C00 = .ok .rdEnv3 ∧ decode 0x802C = .ok (.clk 44)
    ∧ decode 0xC000 = .ok .rst ∧ decode 0xC001 = .ok .out ∧ decode 0x58FF = .ok (.wrModeVol 0xFF)
    ∧ decode 0x5F12 = .ok (.wrLatch1C1F 0x1F 0x12) ∧ decode 0x1F00 = .ok (.rdBus1E1F 0x1F)
    ∧ decode 0xBFFF = .ok (.clk 16383) ∧ decode 0x2000 = .error .readBit13 ∧ decode 0x1C01 = .error .readLowByte
    ∧ decode 0x7FFF = .error .writeBit13 ∧ decode 0xC002 = .error .sysFunc

/-- R54 to R60: no bit of an encoding is dropped. -/
def Obligations.DecodeOfEncodeIsTheInstruction : Prop :=
  ∀ i : Instr, i.wellFormed = true → decode (encode i) = .ok i

/-- R59, R60: a word that decodes is the one word of its instruction. -/
def Obligations.DecodedWordIsItsInstructionsWord : Prop :=
  ∀ (w : CommandWord) (i : Instr), decode w = .ok i → encode i = w ∧ i.wellFormed = true

/-- R171, with the reserved words of R59: exactly they are refused, before any effect. -/
def Obligations.ExactlyReservedWordsAreRefused : Prop :=
  ∀ (s : State) (w : CommandWord) (rest : List CommandWord), s.pending = w :: rest →
    ((∃ why, step s = .refused (.reserved w why)) ↔ ReservedPattern w.toNat)
    ∧ (¬ ReservedPattern w.toNat → ∃ i t, decode w = .ok i ∧ step s = .next t)

/-- R47, R48: the next word of the host's stream is taken and its operation runs whole. -/
def Obligations.StepRunsTheDecodedInstruction : Prop :=
  ∀ (s : State) (w : CommandWord) (rest : List CommandWord) (i : Instr),
    s.pending = w :: rest → decode w = .ok i → step s = exec i { s with pending := rest }

/-- The model's choice of log entry 2, after R5: with nothing issued, nothing moves. -/
def Obligations.StepWithNothingIssuedChangesNothing : Prop :=
  ∀ s : State, s.pending = [] → step s = .next s

/-- R55, R150 and R56, R153 to R156: every WRITE word performs `RegWrite` and every READ word returns `RegRead`. -/
def Obligations.WindowWordsAccessTheWindow : Prop :=
  (∀ (off : Offset) (d : Byte) (s : State), ∃ i,
      decode (BitVec.ofNat 16 (0x4000 + off.toNat * 256 + d.toNat)) = .ok i
      ∧ exec i s = .next (s.regWrite params off d))
  ∧ ∀ (off : Offset) (s : State), ∃ i,
      decode (BitVec.ofNat 16 (off.toNat * 256)) = .ok i
      ∧ exec i s = .next (returnedByte s (s.regRead params off))

/-- R70. -/
def Obligations.FreqLoWriteReplacesTheLowByte : Prop :=
  let f := fun (x : Voice) (d : Byte) =>
    { x with wave := { x.wave with freq := (x.wave.freq &&& 0xFF00) ||| d.setWidth 16 } }
  VoiceWrite 0x40 .wrFreqLo1 0 f ∧ VoiceWrite 0x47 .wrFreqLo2 1 f ∧ VoiceWrite 0x4E .wrFreqLo3 2 f

/-- R71. -/
def Obligations.FreqHiWriteReplacesTheHighByte : Prop :=
  let f := fun (x : Voice) (d : Byte) =>
    { x with wave := { x.wave with freq := (d.setWidth 16 <<< 8) ||| (x.wave.freq &&& 0x00FF) } }
  VoiceWrite 0x41 .wrFreqHi1 0 f ∧ VoiceWrite 0x48 .wrFreqHi2 1 f ∧ VoiceWrite 0x4F .wrFreqHi3 2 f

/-- R72. -/
def Obligations.PwLoWriteReplacesTheLowByte : Prop :=
  let f := fun (x : Voice) (d : Byte) =>
    { x with wave := { x.wave with pw := (x.wave.pw &&& 0xF00) ||| d.setWidth 12 } }
  VoiceWrite 0x42 .wrPwLo1 0 f ∧ VoiceWrite 0x49 .wrPwLo2 1 f ∧ VoiceWrite 0x50 .wrPwLo3 2 f

/-- R73: the upper nibble of the byte is ignored. -/
def Obligations.PwHiWriteReplacesTheHighNibble : Prop :=
  let f := fun (x : Voice) (d : Byte) =>
    { x with wave := { x.wave with pw := ((d &&& 0x0F).setWidth 12 <<< 8) ||| (x.wave.pw &&& 0x0FF) } }
  VoiceWrite 0x43 .wrPwHi1 0 f ∧ VoiceWrite 0x4A .wrPwHi2 1 f ∧ VoiceWrite 0x51 .wrPwHi3 2 f

/-- R74, R75, R76, R100. The machine's `TEST_CLEARS_NOISE` is false; the second clause says what R76 does for either
value. -/
def Obligations.CtrlWriteSetsControlBitsTestAndGate : Prop :=
  let f := fun (x : Voice) (d : Byte) =>
    { wave := controlWritten x.wave d, env := gateWritten x.env (d.getLsbD 0) : Voice }
  (VoiceWrite 0x44 .wrCtrl1 0 f ∧ VoiceWrite 0x4B .wrCtrl2 1 f ∧ VoiceWrite 0x52 .wrCtrl3 2 f)
    ∧ ∀ (p : Params) (w : WaveState) (d : Byte), w.writeCtrl p d = { controlWritten w d with
        shift := if d.getLsbD 3 && !w.test && p.testClearsNoise then 0 else (controlWritten w d).shift }

/-- R101. -/
def Obligations.AdWriteSetsFieldsAndReloadsThePeriod : Prop :=
  let f := fun (x : Voice) (d : Byte) =>
    { x with env := { x.env with
        attack := (d >>> 4).setWidth 4
        decay := d.setWidth 4
        ratePeriod :=
          if x.env.state = .attack then ratePeriodOf ((d >>> 4).setWidth 4)
          else if x.env.state = .decaySustain then ratePeriodOf (d.setWidth 4) else x.env.ratePeriod } }
  VoiceWrite 0x45 .wrAd1 0 f ∧ VoiceWrite 0x4C .wrAd2 1 f ∧ VoiceWrite 0x53 .wrAd3 2 f

/-- R102. -/
def Obligations.SrWriteSetsFieldsAndReloadsThePeriod : Prop :=
  let f := fun (x : Voice) (d : Byte) =>
    { x with env := { x.env with
        sustain := (d >>> 4).setWidth 4
        release := d.setWidth 4
        ratePeriod := if x.env.state = .release then ratePeriodOf (d.setWidth 4) else x.env.ratePeriod } }
  VoiceWrite 0x46 .wrSr1 0 f ∧ VoiceWrite 0x4D .wrSr2 1 f ∧ VoiceWrite 0x54 .wrSr3 2 f

/-- R51: the two bytes of `freq`, `pw` and `fc`, written one after the other. -/
def Obligations.TwoByteWritesAssembleTheirRegister : Prop :=
  ∀ (lo hi : Byte) (s t u : State),
    (exec (.wrFreqLo1 lo) s = .next t → exec (.wrFreqHi1 hi) t = .next u →
      (u.wave 0).freq.toNat = hi.toNat * 256 + lo.toNat)
    ∧ (exec (.wrFreqLo2 lo) s = .next t → exec (.wrFreqHi2 hi) t = .next u →
      (u.wave 1).freq.toNat = hi.toNat * 256 + lo.toNat)
    ∧ (exec (.wrFreqLo3 lo) s = .next t → exec (.wrFreqHi3 hi) t = .next u →
      (u.wave 2).freq.toNat = hi.toNat * 256 + lo.toNat)
    ∧ (exec (.wrPwLo1 lo) s = .next t → exec (.wrPwHi1 hi) t = .next u →
      (u.wave 0).pw.toNat = hi.toNat % 16 * 256 + lo.toNat)
    ∧ (exec (.wrPwLo2 lo) s = .next t → exec (.wrPwHi2 hi) t = .next u →
      (u.wave 1).pw.toNat = hi.toNat % 16 * 256 + lo.toNat)
    ∧ (exec (.wrPwLo3 lo) s = .next t → exec (.wrPwHi3 hi) t = .next u →
      (u.wave 2).pw.toNat = hi.toNat % 16 * 256 + lo.toNat)
    ∧ (exec (.wrFcLo lo) s = .next t → exec (.wrFcHi hi) t = .next u →
      u.filter.fc.toNat = hi.toNat * 8 + lo.toNat % 8)

/-- R125. -/
def Obligations.FcLoWriteReplacesThreeBits : Prop :=
  FilterWrite 0x55 .wrFcLo fun f d => { f with fc := (f.fc &&& 0x7F8) ||| (d &&& 0x07).setWidth 11 }

/-- R126. -/
def Obligations.FcHiWriteReplacesEightBits : Prop :=
  FilterWrite 0x56 .wrFcHi fun f d => { f with fc := (d.setWidth 11 <<< 3) ||| (f.fc &&& 0x007) }

/-- R127. -/
def Obligations.ResFiltWriteSetsResonanceAndRoutes : Prop :=
  FilterWrite 0x57 .wrResFilt fun f d => { f with res := (d >>> 4).setWidth 4, filt := d.setWidth 4 }

/-- R128. -/
def Obligations.ModeVolWriteSetsModeVolumeAndVoiceThreeOff : Prop :=
  FilterWrite 0x58 .wrModeVol fun f d =>
    { f with vol := d.setWidth 4, mode := (d >>> 4).setWidth 3, voice3off := d.getLsbD 7 }

/-- R152, with R151: a write to 0x19 to 0x1F latches the bus and changes nothing else. -/
def Obligations.UnmappedWritesOnlyLatchTheBus : Prop :=
  ∀ (off : Offset) (d : Byte) (s : State),
    exec (.wrLatch19 d) s = .next { s with busValue := d, busTtl := 0x2000 }
    ∧ exec (.wrLatch1A1B off d) s = .next { s with busValue := d, busTtl := 0x2000 }
    ∧ exec (.wrLatch1C1F off d) s = .next { s with busValue := d, busTtl := 0x2000 }

/-- R153. -/
def Obligations.PotReadsReturnZero : Prop :=
  ∀ s : State, exec .rdPotX s = .next (returnedByte s 0) ∧ exec .rdPotY s = .next (returnedByte s 0)

/-- R154, with the waveform outputs of R85 to R95: OSC3 is the upper 8 of the 12 bits. -/
def Obligations.Osc3ReadsTheUpperWaveformBits : Prop :=
  ∀ s : State, exec .rdOsc3 s =
    .next (returnedByte s (BitVec.ofNat 8 (waveOutput (s.wave 2) (s.wave 1).acc.toNat / 16)))

/-- R85 to R95: the 12-bit output of every voice; ring modulation reads voice `(v + 2) mod 3`. -/
def Obligations.WaveformOutputsFollowTheirFormulas : Prop :=
  ∀ (s : State) (v : VoiceId), (s.out params v).toNat = waveOutput (s.wave v) (s.wave (v + 2)).acc.toNat

/-- R155. -/
def Obligations.Env3ReadsTheLevelOfVoiceThree : Prop :=
  ∀ s : State, exec .rdEnv3 s = .next (returnedByte s s.voice2.env.level)

/-- R156. -/
def Obligations.OtherReadsReturnTheBusValue : Prop :=
  ∀ (off : Offset) (s : State),
    exec (.rdBus00to0F off) s = .next (returnedByte s s.busValue)
    ∧ exec (.rdBus10to17 off) s = .next (returnedByte s s.busValue)
    ∧ exec .rdBus18 s = .next (returnedByte s s.busValue)
    ∧ exec .rdBus1D s = .next (returnedByte s s.busValue)
    ∧ exec (.rdBus1E1F off) s = .next (returnedByte s s.busValue)

/-- R157, R166: the sample is `Vo / 11`, truncated toward 0 and clipped to 16 bits; nothing else changes. -/
def Obligations.OutputReturnsTheClippedSample : Prop :=
  ∀ s : State, ∃ x : BitVec 16, x.toInt = min (max (Int.tdiv s.ext.vo 11) (-32768)) 32767
    ∧ exec .out s = .next { s with returned := s.returned ++ [.sample x] }

/-- R158, R28, R27: RESET gives every field of the block its reset value, and the machine starts there. That RESET keeps
`pending` and `returned`, and that both are empty in `State.reset`, is the model's choice: log entries 1 and 3. -/
def Obligations.ResetGivesEveryFieldItsResetValue : Prop :=
  (∀ s : State, exec .rst s = .next (resetState s.pending s.returned)) ∧ State.reset = resetState [] []

/-- R186. -/
def Obligations.ResetTwiceIsResetOnce : Prop :=
  ∀ s : State, ∃ t, exec .rst s = .next t ∧ exec .rst t = .next t

/-- R189: what the host sees right after RESET. -/
def Obligations.AfterResetTheHostReadsZeros : Prop :=
  ∀ (s t : State), exec .rst s = .next t →
    (∀ (off : Offset) (i : Instr), decode (readWord off) = .ok i → exec i t = .next (returnedByte t 0))
    ∧ exec .out t = .next { t with returned := t.returned ++ [.sample 0] }
    ∧ (∀ v, (t.env v).level = 0)
    ∧ ∀ (p : Params) (v : VoiceId), p.mute v = false → p.model = .mos6581 → t.voiceOut p v = 522240

/-- R159, R160, R161, R164, R165: `CLK dt` completes, and ages the bus, clocks the envelopes, runs the oscillator
loop, and clocks the filter and then the external filter from the voice outputs of the end of the operation. -/
def Obligations.ClockRunsItsStepsInOrder : Prop :=
  ∀ (dt : Nat) (s : State), ∃ t, exec (.clk dt) s = .next t
    ∧ (dt = 0 → t = s)
    ∧ (0 < dt →
      t.busTtl = (if s.busTtl - dt ≤ 0 then 0 else s.busTtl - dt)
      ∧ t.busValue = (if s.busTtl - dt ≤ 0 then 0 else s.busValue)
      ∧ (∀ v, t.env v = (s.env v).clock dt)
      ∧ (∀ v, t.wave v = (s.oscLoop dt).wave v)
      ∧ t.filter = s.filter.clock params dt (t.voiceOut params 0) (t.voiceOut params 1) (t.voiceOut params 2) 0
      ∧ t.ext = s.ext.clock params dt (t.filter.out params)
      ∧ t.pending = s.pending ∧ t.returned = s.returned)

/-- R151, R160, R200: a byte written to any offset is on the bus until `BUS_TTL = 0x2000` cycles have been clocked. -/
def Obligations.BusByteLivesForItsTime : Prop :=
  ∀ (off : Offset) (d : Byte) (i : Instr) (dt : Nat) (s t u : State),
    decode (writeWord off d) = .ok i → exec i s = .next t → exec (.clk dt) t = .next u →
    u.busValue = if dt < 0x2000 then d else 0

/-- R162: the spans of the oscillator loop (a substep is that of `SubstepClocksThenSynchronizes`). A span has at least one cycle and at most those left. Inside it no
sync source flips bit 23, and a span that ends early ends where one does (or would, were its test bit clear). -/
def Obligations.OscillatorSpansEndAtSyncEdges : Prop :=
  ∀ (s : State) (dt : Nat), 0 < dt →
    1 ≤ s.oscSpan dt ∧ s.oscSpan dt ≤ dt
    ∧ (∀ i, SyncDriver s i → ∀ n, n < s.oscSpan dt →
        ((s.wave i).acc.toNat + n * (s.wave i).freq.toNat) / 0x800000 = (s.wave i).acc.toNat / 0x800000)
    ∧ (s.oscSpan dt < dt → ∃ i, SyncDriver s i ∧
        ((s.wave i).acc.toNat + s.oscSpan dt * (s.wave i).freq.toNat) / 0x800000
          = (s.wave i).acc.toNat / 0x800000 + 1)
    ∧ s.oscLoop dt = (s.substep (s.oscSpan dt)).oscLoop (dt - s.oscSpan dt)

/-- R80, R81. -/
def Obligations.OscillatorClockAdvancesThePhase : Prop :=
  ∀ (w : WaveState) (n : Nat),
    (w.test = true → w.clock n = w)
    ∧ (w.test = false →
      (w.clock n).acc.toNat = (w.acc.toNat + n * w.freq.toNat) % 2 ^ 24
      ∧ ((w.clock n).msbRising = true ↔ w.acc.toNat < 2 ^ 23 ∧ 2 ^ 23 ≤ (w.clock n).acc.toNat)
      ∧ { w.clock n with acc := w.acc, shift := w.shift, msbRising := w.msbRising } = w)

/-- R82, R83: the noise register steps once for every rise of bit 19 in the span. -/
def Obligations.NoiseStepsOncePerBitNineteenRise : Prop :=
  ∀ (w : WaveState) (n : Nat), w.test = false →
    (w.clock n).shift = lfsr^[bit19Rises w.acc.toNat (n * w.freq.toNat)] w.shift

/-- R84: only `msb_rising` may differ. -/
def Obligations.OscillatorClockIsAdditive : Prop :=
  ∀ (w : WaveState) (a b : Nat),
    { (w.clock a).clock b with msbRising := w.msbRising } = { w.clock (a + b) with msbRising := w.msbRising }

/-- R96: only the destination's accumulator is written. -/
def Obligations.SynchronizeZeroesOnlyTheDestination : Prop :=
  ∀ (s : State) (v : VoiceId),
    (((s.wave v).msbRising = true ∧ (s.wave (v + 1)).sync = true
        ∧ ¬ ((s.wave v).sync = true ∧ (s.wave (v + 2)).msbRising = true)) →
      s.synchronize v = s.setWave (v + 1) { s.wave (v + 1) with acc := 0 })
    ∧ (¬ ((s.wave v).msbRising = true ∧ (s.wave (v + 1)).sync = true
        ∧ ¬ ((s.wave v).sync = true ∧ (s.wave (v + 2)).msbRising = true)) →
      s.synchronize v = s)

/-- R97. -/
def Obligations.SynchronizeCallsCommute : Prop :=
  ∀ (s : State) (u v : VoiceId), (s.synchronize u).synchronize v = (s.synchronize v).synchronize u

/-- R162, R163, R167, with the exception of R98: where no voice holds a stale `msb_rising`, one clock operation moves
every accumulator and every noise register as `dt` single cycles of R80 to R83, each followed by R96, do. -/
def Obligations.OscillatorLoopEqualsCycleByCycle : Prop :=
  ∀ (dt : Nat) (s t : State), (∀ v, ¬ StaleLatch s v) → exec (.clk dt) s = .next t →
    ∀ v, (t.wave v).acc = (oscillatorCycle^[dt] s.wave v).acc
      ∧ (t.wave v).shift = (oscillatorCycle^[dt] s.wave v).shift

/-- R80, R198 and R15: under test the waveform generator does not move, whatever syncs it, and pulse is high. -/
def Obligations.TestBitFreezesTheOscillator : Prop :=
  ∀ (dt : Nat) (s t : State) (v : VoiceId), s.Legal → (s.wave v).test = true → exec (.clk dt) s = .next t →
    t.wave v = s.wave v ∧ (t.wave v).acc = 0 ∧ (t.wave v).pulse = 0xFFF

/-- R105 to R109: one envelope step, field by field. -/
def Obligations.EnvelopeStepFollowsItsPhase : Prop :=
  ∀ e : EnvState,
    (e.state ≠ .attack ∧ e.expCounter + 1 ≠ e.expPeriod →
      e.step = { e with rateCounter := 0, expCounter := e.expCounter + 1 })
    ∧ ((e.state = .attack ∨ e.expCounter + 1 = e.expPeriod) ∧ e.holdZero = true →
      e.step = { e with rateCounter := 0, expCounter := 0 })
    ∧ ((e.state = .attack ∨ e.expCounter + 1 = e.expPeriod) ∧ e.holdZero = false →
      e.step = { e with
        rateCounter := 0
        expCounter := 0
        level := levelAfter e
        expPeriod := periodAfter (levelAfter e) e.expPeriod
        holdZero := decide (levelAfter e = 0)
        state := if e.state = .attack ∧ levelAfter e = 0xFF then .decaySustain else e.state
        ratePeriod := if e.state = .attack ∧ levelAfter e = 0xFF then ratePeriodOf e.decay else e.ratePeriod })

/-- R103, R104: the cycles to the next step, with the ADSR delay; until then only the counter moves, with its wrap. -/
def Obligations.EnvelopeStepsAfterTheAdsrDelay : Prop :=
  ∀ e : EnvState, e.Legal →
    let span : Int := if (e.ratePeriod : Int) - e.rateCounter > 0 then (e.ratePeriod : Int) - e.rateCounter
      else (e.ratePeriod : Int) - e.rateCounter + 0x7FFF
    (∀ n : Nat, (n : Int) < span → e.clock n = { e with
      rateCounter := if e.rateCounter + n ≥ 0x8000 then e.rateCounter + n - 0x7FFF else e.rateCounter + n })
    ∧ e.clock span.toNat = e.step

/-- R111: a span may be split anywhere, and equals its single cycles. -/
def Obligations.EnvelopeClockEqualsCycleByCycle : Prop :=
  ∀ e : EnvState, e.Legal →
    (∀ n, e.clock n = envCycle^[n] e) ∧ ∀ a b, (e.clock a).clock b = e.clock (a + b)

/-- R19, R107, R112 item 6, R197: an envelope frozen at 0 stays there until a rising gate of its own voice. -/
def Obligations.FrozenEnvelopeWaitsForARisingGate : Prop :=
  ∀ (i : Instr) (s t : State) (v : VoiceId),
    (s.env v).holdZero = true → (s.env v).level = 0 → exec i s = .next t →
    ((t.env v).holdZero = true ∧ (t.env v).level = 0)
    ∨ (∃ d : Byte, i = ctrlOf v d ∧ d.getLsbD 0 = true ∧ (s.env v).gate = false
        ∧ (t.env v).holdZero = false ∧ (t.env v).level = 0 ∧ (t.env v).state = .attack)

/-- R106, R203: attack is linear, one level in `RATE[attack]` cycles, and ends after 255 of them. -/
def Obligations.FullAttackTakesItsCycles : Prop :=
  ∀ e : EnvState, e.state = .attack → e.rateCounter = 0 → e.level = 0 → e.holdZero = false →
    e.ratePeriod = ratePeriodOf e.attack →
    (∀ n, n < 255 * ratePeriodOf e.attack →
      (e.clock n).level.toNat = n / ratePeriodOf e.attack ∧ (e.clock n).state = .attack)
    ∧ (e.clock (255 * ratePeriodOf e.attack)).level = 0xFF
    ∧ (e.clock (255 * ratePeriodOf e.attack)).state = .decaySustain

/-- R107, R109, R203: a full release from 0xFF takes 756 rate periods and ends frozen at 0. -/
def Obligations.FullReleaseTakesItsCycles : Prop :=
  ∀ e : EnvState, e.state = .release → e.rateCounter = 0 → e.level = 0xFF → e.holdZero = false →
    e.expCounter = 0 → e.expPeriod = 1 → e.ratePeriod = ratePeriodOf e.release →
    (∀ n, n < 756 * ratePeriodOf e.release → (e.clock n).level ≠ 0)
    ∧ (e.clock (756 * ratePeriodOf e.release)).level = 0
    ∧ (e.clock (756 * ratePeriodOf e.release)).holdZero = true

/-- R167, R111, R160: envelopes and bus do not depend on how the host splits a span. -/
def Obligations.ClockSplitsKeepEnvelopesAndBus : Prop :=
  ∀ (a b : Nat) (s t u x : State), s.Legal →
    exec (.clk a) s = .next t → exec (.clk b) t = .next u → exec (.clk (a + b)) s = .next x →
    (∀ v, u.env v = x.env v) ∧ u.busValue = x.busValue ∧ u.busTtl = x.busTtl

/-- R7. -/
def Obligations.ModelConstantsHaveTheirValues : Prop :=
  waveZero .mos6581 = 0x380 ∧ waveZero .mos8580 = 0x800 ∧ voiceDc .mos6581 = 522240 ∧ voiceDc .mos8580 = 0
    ∧ mixerDcFilter .mos6581 = -454 ∧ mixerDcFilter .mos8580 = 0
    ∧ mixerDcExt .mos6581 = 280065 ∧ mixerDcExt .mos8580 = 0

/-- R120, R121 and the ranges of R122. -/
def Obligations.VoiceOutputFormulaAndRange : Prop :=
  ∀ (p : Params) (s : State) (v : VoiceId),
    (p.mute v = true → s.voiceOut p v = 0)
    ∧ (p.mute v = false → p.model = .mos6581 →
      s.voiceOut p v = ((s.out p v).toNat - 896 : Int) * (s.env v).level.toNat + 522240
      ∧ 293760 ≤ s.voiceOut p v ∧ s.voiceOut p v ≤ 1337985)
    ∧ (p.mute v = false → p.model = .mos8580 →
      s.voiceOut p v = ((s.out p v).toNat - 2048 : Int) * (s.env v).level.toNat
      ∧ -522240 ≤ s.voiceOut p v ∧ s.voiceOut p v ≤ 521985)

/-- R131: the coefficient is the nearest integer, and has the table's sixteen values. -/
def Obligations.ResonanceCoefficientIsRounded : Prop :=
  (∀ r : BitVec 4, (q1024 r : Int) = round ((1024 : ℚ) / (707 / 1000 + (r.toNat : ℚ) / 15)))
    ∧ (List.range 16).map (fun r => q1024 (BitVec.ofNat 4 r))
      = [1448, 1324, 1219, 1129, 1052, 984, 925, 872, 826, 783, 745, 711, 679, 651, 624, 600]

/-- R130: `w0` is the nearest integer to the exact real value, for every table entry; the ceilings clamp it. -/
def Obligations.CutoffCoefficientIsTheRoundedRealValue : Prop :=
  ∀ (p : Params) (f : FilterState),
    (f.w0 p : Int) = round (2 * Real.pi * ((p.f0 p.model f.fc).toNat : ℝ) * (1048576 / 1000000))
    ∧ f.w0Ceil1 p = min (f.w0 p) 105414 ∧ f.w0CeilDt p = min (f.w0 p) 26353

/-- R145: `w0lp` is the clamped nearest integer to the exact real value, for every `PASS_FREQ` in thousandths of a
hertz, and for the default of R6 where none is given (log entry 6). -/
def Obligations.ExternalLowPassCoefficientIsTheRoundedRealValue : Prop :=
  w0hp = 105 ∧ ∀ p : Params,
    (∀ m, p.passFreq = some m →
      (w0lp p : Int) = min (round ((m / 1000 : ℝ) * (2 * Real.pi) * (1048576 / 1000000))) 104858)
    ∧ (p.passFreq = none →
      (w0lp p : Int) = min (round (min 20000 ((45 / 100 : ℝ) * p.sampleRate) * (2 * Real.pi) * (1048576 / 1000000)))
        104858)

/-- R132 to R135: one clock of the filter. Up to 8 cycles are one chunk; a longer span is a chunk of 8 and the rest,
with the same inputs. The disabled filter takes every input into `Vnf` and clears its integrators. -/
def Obligations.FilterClockFollowsItsChunks : Prop :=
  ∀ (p : Params) (f : FilterState) (n : Nat) (o0 o1 o2 x : Int),
    let m := scaled f o0 o1 o2 x
    (p.filterEnabled = true → 1 ≤ n → n ≤ 8 →
      f.clock p n o0 o1 o2 x
        = { filterChunk (f.w0CeilDt p) (q1024 f.res) (routeSum f true m) n f with vnf := routeSum f false m })
    ∧ (p.filterEnabled = true → 8 < n →
      f.clock p n o0 o1 o2 x = (f.clock p 8 o0 o1 o2 x).clock p (n - 8) o0 o1 o2 x)
    ∧ (p.filterEnabled = false →
      f.clock p n o0 o1 o2 x
        = { f with vnf := m.1 + m.2.1 + m.2.2.1 + m.2.2.2, vhp := 0, vbp := 0, vlp := 0 })

/-- R136, R137. -/
def Obligations.FilterOutputMixesTheSelectedTaps : Prop :=
  ∀ (p : Params) (f : FilterState),
    (p.filterEnabled = true →
      f.out p = (f.vnf + ((if f.mode.getLsbD 0 then f.vlp else 0) + (if f.mode.getLsbD 1 then f.vbp else 0)
          + (if f.mode.getLsbD 2 then f.vhp else 0)) + (if p.model = .mos6581 then -454 else 0)) * f.vol.toNat)
    ∧ (p.filterEnabled = false →
      f.out p = (f.vnf + (if p.model = .mos6581 then -454 else 0)) * f.vol.toNat)

/-- R146, R147: one clock of the external filter, in chunks of at most 8 cycles; disabled, it removes the mixer's DC. -/
def Obligations.ExternalFilterClockFollowsItsChunks : Prop :=
  ∀ (p : Params) (x : ExtFilterState) (n : Nat) (vi : Int),
    (p.extFilterEnabled = true → 1 ≤ n → n ≤ 8 →
      x.clock p n vi
        = { vlp := x.vlp + (w0lp p * n / 256 : Int) * (vi - x.vlp) / 4096
            vhp := x.vhp + 105 * n * (x.vlp - x.vhp) / 1048576
            vo := x.vlp - x.vhp })
    ∧ (p.extFilterEnabled = true → 8 < n → x.clock p n vi = (x.clock p 8 vi).clock p (n - 8) vi)
    ∧ (p.extFilterEnabled = false →
      x.clock p n vi = { vlp := 0, vhp := 0, vo := vi - (if p.model = .mos6581 then 280065 else 0) })

/-- R15, R17, R18, R19, R25: from every legal state, a step leads to a legal state. -/
def Obligations.StepKeepsTheStateLegal : Prop :=
  ∀ s t : State, s.Legal → step s = .next t → t.Legal

/-- The state after reset is legal. -/
def Obligations.ResetStateIsLegal : Prop := State.reset.Legal

/-- R170: every WRITE, READ, CLOCK, RESET and OUTPUT completes. -/
def Obligations.EveryOperationCompletes : Prop := ∀ (i : Instr) (s : State), ∃ t, exec i s = .next t

/-- R26: the control bits of a voice are written by CTRL writes to that voice (and by RESET) only. -/
def Obligations.ControlBitsChangeOnlyByControlWrites : Prop :=
  ∀ (i : Instr) (s t : State) (v : VoiceId), exec i s = .next t → i ≠ .rst → (∀ d, i ≠ ctrlOf v d) →
    (t.env v).gate = (s.env v).gate ∧ (t.wave v).sync = (s.wave v).sync ∧ (t.wave v).ring = (s.wave v).ring
      ∧ (t.wave v).test = (s.wave v).test ∧ (t.wave v).waveform = (s.wave v).waveform

/-- R202, R26, R98: no operation but CLOCK (and RESET) moves a counter, a level, an integrator or `msb_rising`; an
accumulator and a noise register move else only by a change of the voice's own test bit. -/
def Obligations.TimeAdvancesOnlyByClock : Prop :=
  ∀ (i : Instr) (s t : State), exec i s = .next t → i ≠ .rst → (∀ dt, i ≠ .clk dt) →
    t.ext = s.ext ∧ t.filter.vhp = s.filter.vhp ∧ t.filter.vbp = s.filter.vbp ∧ t.filter.vlp = s.filter.vlp
      ∧ t.filter.vnf = s.filter.vnf
      ∧ ∀ v, (t.env v).level = (s.env v).level ∧ (t.env v).rateCounter = (s.env v).rateCounter
        ∧ (t.env v).expCounter = (s.env v).expCounter ∧ (t.env v).expPeriod = (s.env v).expPeriod
        ∧ (t.wave v).msbRising = (s.wave v).msbRising
        ∧ ((t.wave v).test = (s.wave v).test →
          (t.wave v).acc = (s.wave v).acc ∧ (t.wave v).shift = (s.wave v).shift)

/-- R163, R96: a substep clocks all three generators and then synchronizes them, each from the `msb_rising` of the same
span; nothing else of the state changes, and the order within either loop does not matter. -/
def Obligations.SubstepClocksThenSynchronizes : Prop :=
  ∀ (s : State) (n : Nat),
    let w := synced fun v => (s.wave v).clock n
    let t : State := { s with
      voice0 := { s.voice0 with wave := w 0 }
      voice1 := { s.voice1 with wave := w 1 }
      voice2 := { s.voice2 with wave := w 2 } }
    s.substep n = t
    ∧ ∀ clocks syncs : List VoiceId, clocks.Perm [0, 1, 2] → syncs.Perm [0, 1, 2] →
      syncs.foldl State.synchronize (clocks.foldl (fun u v => u.waveClock v n) s) = t
end

