-- ==== Sys2Proof/Laws/Arith.lean ====
section
/-! SUPPORT. What the arithmetic helpers of Machine/Arith.lean compute. -/

namespace Sys2Proof.Machine

/-- A loop with enough fuel does not depend on it. -/
theorem chunkLoop_go_fuel {α : Type} (body : Nat → α → α) :
    ∀ (f g n : Nat) (x : α), n ≤ f → n ≤ g → chunkLoop.go body f n x = chunkLoop.go body g n x := by
  intro f
  induction f with
  | zero =>
    intro g n x hf _
    obtain rfl : n = 0 := by omega
    cases g <;> simp [chunkLoop.go]
  | succ f ih =>
    intro g n x hf hg
    by_cases hn : n = 0
    · subst hn
      cases g <;> simp [chunkLoop.go]
    · obtain ⟨g, rfl⟩ : ∃ k, g = k + 1 := ⟨g - 1, by omega⟩
      simp only [chunkLoop.go, hn, if_false]
      exact ih g _ _ (by omega) (by omega)

/-- A span of no cycle runs no chunk. -/
@[simp] theorem chunkLoop_zero {α : Type} (body : Nat → α → α) (x : α) : chunkLoop body 0 x = x := rfl

/-- One turn of the loop. -/
theorem chunkLoop_pos {α : Type} (body : Nat → α → α) {n : Nat} (x : α) (hn : 0 < n) :
    chunkLoop body n x = chunkLoop body (n - min n 8) (body (min n 8) x) := by
  obtain ⟨m, rfl⟩ : ∃ m, n = m + 1 := ⟨n - 1, by omega⟩
  unfold chunkLoop
  rw [chunkLoop.go, if_neg (by omega)]
  exact chunkLoop_go_fuel body _ _ _ _ (by omega) (by omega)

/-- Up to 8 cycles are one chunk. -/
theorem chunkLoop_single {α : Type} (body : Nat → α → α) {n : Nat} (x : α) (hn : 0 < n) (h8 : n ≤ 8) :
    chunkLoop body n x = body n x := by
  rw [chunkLoop_pos body x hn, Nat.min_eq_left h8, Nat.sub_self, chunkLoop_zero]

/-- What every chunk keeps, the loop keeps. -/
theorem chunkLoop_invariant {α : Type} {P : α → Prop} (body : Nat → α → α) (hb : ∀ c x, P x → P (body c x)) :
    ∀ (n : Nat) (x : α), P x → P (chunkLoop body n x) := by
  have go : ∀ (f n : Nat) (x : α), P x → P (chunkLoop.go body f n x) := by
    intro f
    induction f with
    | zero => intro n x hx; exact hx
    | succ f ih =>
      intro n x hx
      unfold chunkLoop.go
      split
      · exact hx
      · exact ih _ _ (hb _ _ hx)
  intro n x hx
  exact go n n x hx

/-- `ceilDiv` is the least multiplier that reaches its target. -/
theorem ceilDiv_le_iff {a b q : Nat} (hb : 0 < b) : ceilDiv a b ≤ q ↔ a ≤ q * b := by
  unfold ceilDiv
  rw [← Nat.lt_succ_iff, Nat.div_lt_iff_lt_mul hb, Nat.succ_mul]
  omega

/-- No half-integer lies between `n` times the two neighbouring 20-decimal approximations of the angular step of a
thousandth of a hertz, for every frequency a cutoff table can hold and every one below the clamp of R145: the fraction
2799043 / 424844293 is too close to the step and its denominator too large. -/
theorem angularStep_gap (n k : Nat) (hn : n ≤ 65535000)
    (h : 2 * n * (2 * piNum * 1048576) < (2 * k + 1) * 10 ^ 29) :
    2 * n * (2 * (piNum + 1) * 1048576) < (2 * k + 1) * 10 ^ 29 := by
  by_contra hc
  norm_num [piNum] at h hc
  have e1 : 2 * n * 2799043 < (2 * k + 1) * 424844293 + 1 := by
    by_contra h'
    linarith [not_lt.mp h']
  have e2 : (2 * k + 1) * 424844293 < 2 * n * 2799043 + 1 := by
    by_contra h'
    linarith [not_lt.mp h']
  omega

/-- `roundDiv` rounds `n * α` for a real `α` between `A / B` and `A' / B` when no half-integer lies between the two
products. -/
theorem roundDiv_eq_round (A A' B n : Nat) (α : ℝ) (hB : 0 < B) (h1 : (A : ℝ) / B < α) (h2 : α < (A' : ℝ) / B)
    (gap : ∀ k, 2 * n * A < (2 * k + 1) * B → 2 * n * A' < (2 * k + 1) * B) :
    (roundDiv (n * A) B : Int) = round ((n : ℝ) * α) := by
  symm
  rw [round_eq, Int.floor_eq_iff]
  have hlo : roundDiv (n * A) B * (2 * B) ≤ 2 * (n * A) + B := Nat.div_mul_le_self _ _
  have hhi : 2 * (n * A) + B < (roundDiv (n * A) B + 1) * (2 * B) := by
    rw [mul_comm (_ + 1)]
    exact Nat.lt_mul_div_succ _ (by omega)
  have g := gap (roundDiv (n * A) B) (by nlinarith)
  have hBR : (0 : ℝ) < B := by exact_mod_cast hB
  have hloR : (roundDiv (n * A) B : ℝ) * (2 * B) ≤ 2 * (n * A) + B := by exact_mod_cast hlo
  have gR : 2 * (n : ℝ) * A' < (2 * roundDiv (n * A) B + 1) * B := by exact_mod_cast g
  rw [div_lt_iff₀ hBR] at h1
  rw [lt_div_iff₀ hBR] at h2
  have hn0 : (0 : ℝ) ≤ n := Nat.cast_nonneg n
  have k1 := mul_le_mul_of_nonneg_left h1.le hn0
  have k2 := mul_le_mul_of_nonneg_left h2.le hn0
  push_cast
  constructor
  · by_contra hc
    nlinarith [not_le.mp hc]
  · by_contra hc
    nlinarith [not_lt.mp hc]

end Sys2Proof.Machine
end

