-- ==== Sys2Proof/Laws/State.lean ====
section
/-! SUPPORT. The state's update lemmas: one per field and update, so that no proof unfolds a record update. -/

namespace Sys2Proof.Machine

section setVoice

variable (s : State) (v : VoiceId) (x : Voice)

@[simp] theorem State.voice0_setVoice : (s.setVoice v x).voice0 = if v = 0 then x else s.voice0 := rfl

@[simp] theorem State.voice1_setVoice : (s.setVoice v x).voice1 = if v = 1 then x else s.voice1 := rfl

@[simp] theorem State.voice2_setVoice : (s.setVoice v x).voice2 = if v = 2 then x else s.voice2 := rfl

@[simp] theorem State.filter_setVoice : (s.setVoice v x).filter = s.filter := rfl

@[simp] theorem State.ext_setVoice : (s.setVoice v x).ext = s.ext := rfl

@[simp] theorem State.busValue_setVoice : (s.setVoice v x).busValue = s.busValue := rfl

@[simp] theorem State.busTtl_setVoice : (s.setVoice v x).busTtl = s.busTtl := rfl

@[simp] theorem State.pending_setVoice : (s.setVoice v x).pending = s.pending := rfl

@[simp] theorem State.returned_setVoice : (s.setVoice v x).returned = s.returned := rfl

end setVoice

section setWave

variable (s : State) (v : VoiceId) (w : WaveState)

@[simp] theorem State.filter_setWave : (s.setWave v w).filter = s.filter := rfl

@[simp] theorem State.ext_setWave : (s.setWave v w).ext = s.ext := rfl

@[simp] theorem State.busValue_setWave : (s.setWave v w).busValue = s.busValue := rfl

@[simp] theorem State.busTtl_setWave : (s.setWave v w).busTtl = s.busTtl := rfl

@[simp] theorem State.pending_setWave : (s.setWave v w).pending = s.pending := rfl

@[simp] theorem State.returned_setWave : (s.setWave v w).returned = s.returned := rfl

end setWave

section setEnv

variable (s : State) (v : VoiceId) (e : EnvState)

@[simp] theorem State.filter_setEnv : (s.setEnv v e).filter = s.filter := rfl

@[simp] theorem State.ext_setEnv : (s.setEnv v e).ext = s.ext := rfl

@[simp] theorem State.busValue_setEnv : (s.setEnv v e).busValue = s.busValue := rfl

@[simp] theorem State.busTtl_setEnv : (s.setEnv v e).busTtl = s.busTtl := rfl

@[simp] theorem State.pending_setEnv : (s.setEnv v e).pending = s.pending := rfl

@[simp] theorem State.returned_setEnv : (s.setEnv v e).returned = s.returned := rfl

end setEnv

section setFilter

variable (s : State) (f : FilterState)

@[simp] theorem State.voice0_setFilter : (s.setFilter f).voice0 = s.voice0 := rfl

@[simp] theorem State.voice1_setFilter : (s.setFilter f).voice1 = s.voice1 := rfl

@[simp] theorem State.voice2_setFilter : (s.setFilter f).voice2 = s.voice2 := rfl

@[simp] theorem State.filter_setFilter : (s.setFilter f).filter = f := rfl

@[simp] theorem State.ext_setFilter : (s.setFilter f).ext = s.ext := rfl

@[simp] theorem State.busValue_setFilter : (s.setFilter f).busValue = s.busValue := rfl

@[simp] theorem State.busTtl_setFilter : (s.setFilter f).busTtl = s.busTtl := rfl

@[simp] theorem State.pending_setFilter : (s.setFilter f).pending = s.pending := rfl

@[simp] theorem State.returned_setFilter : (s.setFilter f).returned = s.returned := rfl

@[simp] theorem State.voice_setFilter (u : VoiceId) : (s.setFilter f).voice u = s.voice u := rfl

@[simp] theorem State.wave_setFilter (u : VoiceId) : (s.setFilter f).wave u = s.wave u := rfl

@[simp] theorem State.env_setFilter (u : VoiceId) : (s.setFilter f).env u = s.env u := rfl

end setFilter

section setExt

variable (s : State) (x : ExtFilterState)

@[simp] theorem State.voice0_setExt : (s.setExt x).voice0 = s.voice0 := rfl

@[simp] theorem State.voice1_setExt : (s.setExt x).voice1 = s.voice1 := rfl

@[simp] theorem State.voice2_setExt : (s.setExt x).voice2 = s.voice2 := rfl

@[simp] theorem State.filter_setExt : (s.setExt x).filter = s.filter := rfl

@[simp] theorem State.ext_setExt : (s.setExt x).ext = x := rfl

@[simp] theorem State.busValue_setExt : (s.setExt x).busValue = s.busValue := rfl

@[simp] theorem State.busTtl_setExt : (s.setExt x).busTtl = s.busTtl := rfl

@[simp] theorem State.pending_setExt : (s.setExt x).pending = s.pending := rfl

@[simp] theorem State.returned_setExt : (s.setExt x).returned = s.returned := rfl

@[simp] theorem State.voice_setExt (u : VoiceId) : (s.setExt x).voice u = s.voice u := rfl

@[simp] theorem State.wave_setExt (u : VoiceId) : (s.setExt x).wave u = s.wave u := rfl

@[simp] theorem State.env_setExt (u : VoiceId) : (s.setExt x).env u = s.env u := rfl

end setExt

section busLatch

variable (p : Params) (s : State) (d : Byte)

@[simp] theorem State.voice0_busLatch : (s.busLatch p d).voice0 = s.voice0 := rfl

@[simp] theorem State.voice1_busLatch : (s.busLatch p d).voice1 = s.voice1 := rfl

@[simp] theorem State.voice2_busLatch : (s.busLatch p d).voice2 = s.voice2 := rfl

@[simp] theorem State.filter_busLatch : (s.busLatch p d).filter = s.filter := rfl

@[simp] theorem State.ext_busLatch : (s.busLatch p d).ext = s.ext := rfl

@[simp] theorem State.busValue_busLatch : (s.busLatch p d).busValue = d := rfl

@[simp] theorem State.busTtl_busLatch : (s.busLatch p d).busTtl = p.busTtl := rfl

@[simp] theorem State.pending_busLatch : (s.busLatch p d).pending = s.pending := rfl

@[simp] theorem State.returned_busLatch : (s.busLatch p d).returned = s.returned := rfl

@[simp] theorem State.voice_busLatch (u : VoiceId) : (s.busLatch p d).voice u = s.voice u := rfl

@[simp] theorem State.wave_busLatch (u : VoiceId) : (s.busLatch p d).wave u = s.wave u := rfl

@[simp] theorem State.env_busLatch (u : VoiceId) : (s.busLatch p d).env u = s.env u := rfl

end busLatch

section deliver

variable (s : State) (r : Returned)

@[simp] theorem State.voice0_deliver : (s.deliver r).voice0 = s.voice0 := rfl

@[simp] theorem State.voice1_deliver : (s.deliver r).voice1 = s.voice1 := rfl

@[simp] theorem State.voice2_deliver : (s.deliver r).voice2 = s.voice2 := rfl

@[simp] theorem State.filter_deliver : (s.deliver r).filter = s.filter := rfl

@[simp] theorem State.ext_deliver : (s.deliver r).ext = s.ext := rfl

@[simp] theorem State.busValue_deliver : (s.deliver r).busValue = s.busValue := rfl

@[simp] theorem State.busTtl_deliver : (s.deliver r).busTtl = s.busTtl := rfl

@[simp] theorem State.pending_deliver : (s.deliver r).pending = s.pending := rfl

@[simp] theorem State.returned_deliver : (s.deliver r).returned = s.returned ++ [r] := rfl

@[simp] theorem State.voice_deliver (u : VoiceId) : (s.deliver r).voice u = s.voice u := rfl

@[simp] theorem State.wave_deliver (u : VoiceId) : (s.deliver r).wave u = s.wave u := rfl

@[simp] theorem State.env_deliver (u : VoiceId) : (s.deliver r).env u = s.env u := rfl

end deliver

section issue

variable (s : State) (c : CommandWord)

@[simp] theorem State.voice0_issue : (s.issue c).voice0 = s.voice0 := rfl

@[simp] theorem State.voice1_issue : (s.issue c).voice1 = s.voice1 := rfl

@[simp] theorem State.voice2_issue : (s.issue c).voice2 = s.voice2 := rfl

@[simp] theorem State.filter_issue : (s.issue c).filter = s.filter := rfl

@[simp] theorem State.ext_issue : (s.issue c).ext = s.ext := rfl

@[simp] theorem State.busValue_issue : (s.issue c).busValue = s.busValue := rfl

@[simp] theorem State.busTtl_issue : (s.issue c).busTtl = s.busTtl := rfl

@[simp] theorem State.pending_issue : (s.issue c).pending = c :: s.pending := rfl

@[simp] theorem State.returned_issue : (s.issue c).returned = s.returned := rfl

@[simp] theorem State.voice_issue (u : VoiceId) : (s.issue c).voice u = s.voice u := rfl

@[simp] theorem State.wave_issue (u : VoiceId) : (s.issue c).wave u = s.wave u := rfl

@[simp] theorem State.env_issue (u : VoiceId) : (s.issue c).env u = s.env u := rfl

end issue

section resetBlock

variable (s : State)

@[simp] theorem State.voice0_resetBlock : (s.resetBlock).voice0 = State.reset.voice0 := rfl

@[simp] theorem State.voice1_resetBlock : (s.resetBlock).voice1 = State.reset.voice1 := rfl

@[simp] theorem State.voice2_resetBlock : (s.resetBlock).voice2 = State.reset.voice2 := rfl

@[simp] theorem State.filter_resetBlock : (s.resetBlock).filter = State.reset.filter := rfl

@[simp] theorem State.ext_resetBlock : (s.resetBlock).ext = State.reset.ext := rfl

@[simp] theorem State.busValue_resetBlock : (s.resetBlock).busValue = State.reset.busValue := rfl

@[simp] theorem State.busTtl_resetBlock : (s.resetBlock).busTtl = State.reset.busTtl := rfl

@[simp] theorem State.pending_resetBlock : (s.resetBlock).pending = s.pending := rfl

@[simp] theorem State.returned_resetBlock : (s.resetBlock).returned = s.returned := rfl

end resetBlock

section access

variable (s : State) (u v : VoiceId)

/-- What `setVoice` does to every voice. -/
@[simp] theorem State.voice_setVoice (x : Voice) :
    (s.setVoice v x).voice u = if u = v then x else s.voice u := by
  match u, v with
  | 0, 0 => rfl
  | 0, 1 => rfl
  | 0, 2 => rfl
  | 1, 0 => rfl
  | 1, 1 => rfl
  | 1, 2 => rfl
  | 2, 0 => rfl
  | 2, 1 => rfl
  | 2, 2 => rfl

@[simp] theorem State.wave_setWave (w : WaveState) :
    (s.setWave v w).wave u = if u = v then w else s.wave u := by
  unfold State.setWave State.wave
  rw [State.voice_setVoice]
  split <;> rfl

@[simp] theorem State.env_setWave (w : WaveState) : (s.setWave v w).env u = s.env u := by
  unfold State.setWave State.env
  rw [State.voice_setVoice]
  split
  · next h => rw [h]
  · rfl

@[simp] theorem State.env_setEnv (e : EnvState) :
    (s.setEnv v e).env u = if u = v then e else s.env u := by
  unfold State.setEnv State.env
  rw [State.voice_setVoice]
  split <;> rfl

@[simp] theorem State.wave_setEnv (e : EnvState) : (s.setEnv v e).wave u = s.wave u := by
  unfold State.setEnv State.wave
  rw [State.voice_setVoice]
  split
  · next h => rw [h]
  · rfl

/-- Writing back what a voice already is changes nothing. -/
theorem State.setVoice_voice : s.setVoice v (s.voice v) = s := by
  match v with
  | 0 => rfl
  | 1 => rfl
  | 2 => rfl

/-- Two states that agree in every voice and in every other field are equal. -/
theorem State.ext_voices {s t : State} (hv : ∀ v, s.voice v = t.voice v) (hf : s.filter = t.filter)
    (he : s.ext = t.ext) (hb : s.busValue = t.busValue) (ht : s.busTtl = t.busTtl) (hp : s.pending = t.pending)
    (hr : s.returned = t.returned) : s = t := by
  cases s
  cases t
  have h0 := hv 0
  have h1 := hv 1
  have h2 := hv 2
  simp_all [State.voice]

end access

end Sys2Proof.Machine
end

