-- ==== Sys2Proof/Laws/Envelope.lean ====
section
/-! SUPPORT. What the envelope operations can do. -/

namespace Sys2Proof.Machine

/-- The gate's write, in every case of R100. -/
theorem EnvState.writeGate_cases (e : EnvState) (g : Bool) :
    (e.gate = false ∧ g = true
      ∧ e.writeGate g = { e with state := .attack, ratePeriod := rate e.attack, holdZero := false, gate := true })
    ∨ (e.gate = true ∧ g = false
      ∧ e.writeGate g = { e with state := .release, ratePeriod := rate e.release, gate := false })
    ∨ (e.gate = g ∧ e.writeGate g = e) := by
  cases e
  rename_i gate _ _
  cases gate <;> cases g <;> simp [EnvState.writeGate, rises, falls]

/-- One envelope step, in its three cases (R105). -/
theorem EnvState.step_cases (e : EnvState) :
    (e.state ≠ .attack ∧ e.expCounter + 1 ≠ e.expPeriod
      ∧ e.step = { e with rateCounter := 0, expCounter := e.expCounter + 1 })
    ∨ ((e.state = .attack ∨ e.expCounter + 1 = e.expPeriod) ∧ e.holdZero = true
      ∧ e.step = { e with rateCounter := 0, expCounter := 0 })
    ∨ ((e.state = .attack ∨ e.expCounter + 1 = e.expPeriod) ∧ e.holdZero = false
      ∧ e.step = ({ e with rateCounter := 0, expCounter := 0 } : EnvState).action.expPeriodUpdate) := by
  unfold EnvState.step
  by_cases h : e.state = .attack ∨ e.expCounter + 1 = e.expPeriod
  · cases hz : e.holdZero
    · exact .inr (.inr ⟨h, rfl, by simp [h]⟩)
    · exact .inr (.inl ⟨h, rfl, by simp [h]⟩)
  · exact .inl ⟨fun c => h (.inl c), fun c => h (.inr c), by rw [if_neg h]⟩

/-- The fields a host writes. -/
def EnvState.SameRegisters (e f : EnvState) : Prop :=
  f.attack = e.attack ∧ f.decay = e.decay ∧ f.sustain = e.sustain ∧ f.release = e.release ∧ f.gate = e.gate

theorem EnvState.SameRegisters.refl (e : EnvState) : e.SameRegisters e := ⟨rfl, rfl, rfl, rfl, rfl⟩

theorem EnvState.SameRegisters.trans {e f g : EnvState} (h : e.SameRegisters f) (k : f.SameRegisters g) :
    e.SameRegisters g := by
  obtain ⟨h1, h2, h3, h4, h5⟩ := h
  obtain ⟨k1, k2, k3, k4, k5⟩ := k
  exact ⟨k1.trans h1, k2.trans h2, k3.trans h3, k4.trans h4, k5.trans h5⟩

theorem EnvState.sameRegisters_action (e : EnvState) : e.SameRegisters e.action := by
  unfold EnvState.action
  split <;> first | exact ⟨rfl, rfl, rfl, rfl, rfl⟩ | (split <;> exact ⟨rfl, rfl, rfl, rfl, rfl⟩)

theorem EnvState.sameRegisters_expPeriodUpdate (e : EnvState) : e.SameRegisters e.expPeriodUpdate := by
  unfold EnvState.expPeriodUpdate
  split <;> exact ⟨rfl, rfl, rfl, rfl, rfl⟩

theorem EnvState.sameRegisters_step (e : EnvState) : e.SameRegisters e.step := by
  obtain ⟨_, _, h⟩ | ⟨_, _, h⟩ | ⟨_, _, h⟩ := e.step_cases
  · rw [h]; exact ⟨rfl, rfl, rfl, rfl, rfl⟩
  · rw [h]; exact ⟨rfl, rfl, rfl, rfl, rfl⟩
  · rw [h]
    exact .trans (f := { e with rateCounter := 0, expCounter := 0 }) ⟨rfl, rfl, rfl, rfl, rfl⟩
      ((EnvState.sameRegisters_action _).trans (EnvState.sameRegisters_expPeriodUpdate _))

/-- What a partial advance and a step both keep, a clock keeps. -/
theorem EnvState.clock_invariant {P : EnvState → Prop} (ha : ∀ e n, P e → P (e.advance n))
    (hs : ∀ e, P e → P e.step) : ∀ (e : EnvState) (n : Nat), P e → P (e.clock n) := by
  have go : ∀ (f n span : Nat) (e : EnvState), P e → P (EnvState.clock.go f n span e) := by
    intro f
    induction f with
    | zero => intro n span e he; exact he
    | succ f ih =>
      intro n span e he
      unfold EnvState.clock.go
      split
      · exact ha _ _ he
      · exact ih _ _ _ (hs _ he)
  intro e n he
  exact go _ _ _ _ he

/-- No clock writes a field the host writes. -/
theorem EnvState.sameRegisters_clock (e : EnvState) (n : Nat) : e.SameRegisters (e.clock n) :=
  EnvState.clock_invariant (P := e.SameRegisters) (fun _ _ h => h.trans ⟨rfl, rfl, rfl, rfl, rfl⟩)
    (fun f h => h.trans f.sameRegisters_step) e n (.refl e)

/-- All three envelopes are clocked, and nothing else changes (45_sid_top.md R161). -/
theorem State.envClockAll_spec (s : State) (n : Nat) :
    (∀ v, (s.envClockAll n).env v = (s.env v).clock n) ∧ (∀ v, (s.envClockAll n).wave v = s.wave v)
    ∧ (s.envClockAll n).filter = s.filter ∧ (s.envClockAll n).ext = s.ext
    ∧ (s.envClockAll n).busValue = s.busValue ∧ (s.envClockAll n).busTtl = s.busTtl
    ∧ (s.envClockAll n).pending = s.pending ∧ (s.envClockAll n).returned = s.returned := by
  refine ⟨fun v => ?_, fun v => ?_, rfl, rfl, rfl, rfl, rfl, rfl⟩
  · match v with
    | 0 => rfl
    | 1 => rfl
    | 2 => rfl
  · simp [State.envClockAll, State.envClock]

end Sys2Proof.Machine
end

