-- ==== Sys2Proof/Laws/Filter.lean ====
section
/-! SUPPORT. What the filter operations can do. -/

namespace Sys2Proof.Machine

/-- The fields a host writes. -/
def FilterState.SameRegisters (f g : FilterState) : Prop :=
  g.fc = f.fc ∧ g.res = f.res ∧ g.filt = f.filt ∧ g.mode = f.mode ∧ g.vol = f.vol ∧ g.voice3off = f.voice3off

/-- No clock writes a field the host writes (43_filter.md R134, R135). -/
theorem FilterState.sameRegisters_clock (p : Params) (f : FilterState) (n : Nat) (o0 o1 o2 x : Int) :
    f.SameRegisters (f.clock p n o0 o1 o2 x) := by
  unfold FilterState.clock
  simp only
  split
  · refine chunkLoop_invariant (P := f.SameRegisters) _ (fun c g hg => ?_) n _ ⟨rfl, rfl, rfl, rfl, rfl, rfl⟩
    obtain ⟨h1, h2, h3, h4, h5, h6⟩ := hg
    exact ⟨h1, h2, h3, h4, h5, h6⟩
  · exact ⟨rfl, rfl, rfl, rfl, rfl, rfl⟩

/-- A chunk leaves the bypass sum alone (R135). -/
theorem FilterState.vnf_chunkLoop (p : Params) (vi : Int) (n : Nat) (f : FilterState) :
    (chunkLoop (FilterState.chunk p vi) n f).vnf = f.vnf :=
  chunkLoop_invariant (P := fun g : FilterState => g.vnf = f.vnf) (FilterState.chunk p vi)
    (fun c g (h : g.vnf = f.vnf) => (show (FilterState.chunk p vi c g).vnf = f.vnf from h)) n f rfl

/-- The disabled filter (R134). -/
theorem FilterState.clock_disabled {p : Params} (h : p.filterEnabled = false) (f : FilterState) (n : Nat)
    (o0 o1 o2 x : Int) :
    f.clock p n o0 o1 o2 x
      = { f with
          vnf := (f.inputs o0 o1 o2 x).v0 + (f.inputs o0 o1 o2 x).v1 + (f.inputs o0 o1 o2 x).v2
            + (f.inputs o0 o1 o2 x).xe
          vhp := 0, vbp := 0, vlp := 0 } := by
  simp [FilterState.clock, h]

/-- The disabled external filter (44_extfilter.md R147). -/
theorem ExtFilterState.clock_disabled {p : Params} (h : p.extFilterEnabled = false) (x : ExtFilterState) (n : Nat)
    (vi : Int) : x.clock p n vi = { vlp := 0, vhp := 0, vo := vi - mixerDcExt p.model } := by
  simp [ExtFilterState.clock, h]

end Sys2Proof.Machine
end

