-- ==== Sys2Proof/Laws/PerInstr.lean ====
section
/-! SUPPORT. Facts about every operation as syntax, one lemma per constructor. -/

namespace Sys2Proof.Laws

/-- The format bits `w[15:14]` of an operation (30_encoding.md R54): READ 0, WRITE 1, CLOCK 2, SYS 3. -/
def opBits : Instr → Nat
  | .rdPotX | .rdPotY | .rdOsc3 | .rdEnv3 | .rdBus18 | .rdBus1D => 0
  | .rdBus00to0F _ | .rdBus10to17 _ | .rdBus1E1F _ => 0
  | .clk _ => 2
  | .rst | .out => 3
  | .wrFreqLo1 _ | .wrFreqHi1 _ | .wrPwLo1 _ | .wrPwHi1 _ | .wrCtrl1 _ | .wrAd1 _ | .wrSr1 _ => 1
  | .wrFreqLo2 _ | .wrFreqHi2 _ | .wrPwLo2 _ | .wrPwHi2 _ | .wrCtrl2 _ | .wrAd2 _ | .wrSr2 _ => 1
  | .wrFreqLo3 _ | .wrFreqHi3 _ | .wrPwLo3 _ | .wrPwHi3 _ | .wrCtrl3 _ | .wrAd3 _ | .wrSr3 _ => 1
  | .wrFcLo _ | .wrFcHi _ | .wrResFilt _ | .wrModeVol _ => 1
  | .wrLatch19 _ | .wrLatch1A1B _ _ | .wrLatch1C1F _ _ => 1

/-- An operation's word starts with the bits of its format. -/
def OpBits.Statement (i : Instr) : Prop := (encode i).toNat / 2 ^ 14 = opBits i

theorem readWord_opBits (off : Offset) : (readWord off).toNat / 2 ^ 14 = 0 := by
  have := off.isLt
  simp only [readWord, BitVec.toNat_append, BitVec.toNat_ofNat]
  rw [← Nat.shiftLeft_add_eq_or_of_lt (by omega), ← Nat.shiftLeft_add_eq_or_of_lt (by omega)]
  simp only [Nat.shiftLeft_eq]
  omega

theorem writeWord_opBits (off : Offset) (d : Byte) : (writeWord off d).toNat / 2 ^ 14 = 1 := by
  have := off.isLt
  have := d.isLt
  simp only [writeWord, BitVec.toNat_append, BitVec.toNat_ofNat]
  rw [← Nat.shiftLeft_add_eq_or_of_lt (by omega), ← Nat.shiftLeft_add_eq_or_of_lt (by omega)]
  simp only [Nat.shiftLeft_eq]
  omega

theorem clockWord_opBits (dt : BitVec 14) : (clockWord dt).toNat / 2 ^ 14 = 2 := by
  have := dt.isLt
  simp only [clockWord, BitVec.toNat_append, BitVec.toNat_ofNat]
  rw [← Nat.shiftLeft_add_eq_or_of_lt (by omega), Nat.shiftLeft_eq]
  omega

theorem sysWord_opBits (func : BitVec 14) : (sysWord func).toNat / 2 ^ 14 = 3 := by
  have := func.isLt
  simp only [sysWord, BitVec.toNat_append, BitVec.toNat_ofNat]
  rw [← Nat.shiftLeft_add_eq_or_of_lt (by omega), Nat.shiftLeft_eq]
  omega

theorem OpBits.wrFreqLo1 (data : Byte) : OpBits.Statement (.wrFreqLo1 data) := writeWord_opBits _ _

theorem OpBits.wrFreqHi1 (data : Byte) : OpBits.Statement (.wrFreqHi1 data) := writeWord_opBits _ _

theorem OpBits.wrPwLo1 (data : Byte) : OpBits.Statement (.wrPwLo1 data) := writeWord_opBits _ _

theorem OpBits.wrPwHi1 (data : Byte) : OpBits.Statement (.wrPwHi1 data) := writeWord_opBits _ _

theorem OpBits.wrCtrl1 (data : Byte) : OpBits.Statement (.wrCtrl1 data) := writeWord_opBits _ _

theorem OpBits.wrAd1 (data : Byte) : OpBits.Statement (.wrAd1 data) := writeWord_opBits _ _

theorem OpBits.wrSr1 (data : Byte) : OpBits.Statement (.wrSr1 data) := writeWord_opBits _ _

theorem OpBits.wrFreqLo2 (data : Byte) : OpBits.Statement (.wrFreqLo2 data) := writeWord_opBits _ _

theorem OpBits.wrFreqHi2 (data : Byte) : OpBits.Statement (.wrFreqHi2 data) := writeWord_opBits _ _

theorem OpBits.wrPwLo2 (data : Byte) : OpBits.Statement (.wrPwLo2 data) := writeWord_opBits _ _

theorem OpBits.wrPwHi2 (data : Byte) : OpBits.Statement (.wrPwHi2 data) := writeWord_opBits _ _

theorem OpBits.wrCtrl2 (data : Byte) : OpBits.Statement (.wrCtrl2 data) := writeWord_opBits _ _

theorem OpBits.wrAd2 (data : Byte) : OpBits.Statement (.wrAd2 data) := writeWord_opBits _ _

theorem OpBits.wrSr2 (data : Byte) : OpBits.Statement (.wrSr2 data) := writeWord_opBits _ _

theorem OpBits.wrFreqLo3 (data : Byte) : OpBits.Statement (.wrFreqLo3 data) := writeWord_opBits _ _

theorem OpBits.wrFreqHi3 (data : Byte) : OpBits.Statement (.wrFreqHi3 data) := writeWord_opBits _ _

theorem OpBits.wrPwLo3 (data : Byte) : OpBits.Statement (.wrPwLo3 data) := writeWord_opBits _ _

theorem OpBits.wrPwHi3 (data : Byte) : OpBits.Statement (.wrPwHi3 data) := writeWord_opBits _ _

theorem OpBits.wrCtrl3 (data : Byte) : OpBits.Statement (.wrCtrl3 data) := writeWord_opBits _ _

theorem OpBits.wrAd3 (data : Byte) : OpBits.Statement (.wrAd3 data) := writeWord_opBits _ _

theorem OpBits.wrSr3 (data : Byte) : OpBits.Statement (.wrSr3 data) := writeWord_opBits _ _

theorem OpBits.wrFcLo (data : Byte) : OpBits.Statement (.wrFcLo data) := writeWord_opBits _ _

theorem OpBits.wrFcHi (data : Byte) : OpBits.Statement (.wrFcHi data) := writeWord_opBits _ _

theorem OpBits.wrResFilt (data : Byte) : OpBits.Statement (.wrResFilt data) := writeWord_opBits _ _

theorem OpBits.wrModeVol (data : Byte) : OpBits.Statement (.wrModeVol data) := writeWord_opBits _ _

theorem OpBits.wrLatch19 (data : Byte) : OpBits.Statement (.wrLatch19 data) := writeWord_opBits _ _

theorem OpBits.wrLatch1A1B (off : Offset) (data : Byte) : OpBits.Statement (.wrLatch1A1B off data) := writeWord_opBits _ _

theorem OpBits.wrLatch1C1F (off : Offset) (data : Byte) : OpBits.Statement (.wrLatch1C1F off data) := writeWord_opBits _ _

theorem OpBits.rdPotX : OpBits.Statement .rdPotX := readWord_opBits _

theorem OpBits.rdPotY : OpBits.Statement .rdPotY := readWord_opBits _

theorem OpBits.rdOsc3 : OpBits.Statement .rdOsc3 := readWord_opBits _

theorem OpBits.rdEnv3 : OpBits.Statement .rdEnv3 := readWord_opBits _

theorem OpBits.rdBus00to0F (off : Offset) : OpBits.Statement (.rdBus00to0F off) := readWord_opBits _

theorem OpBits.rdBus10to17 (off : Offset) : OpBits.Statement (.rdBus10to17 off) := readWord_opBits _

theorem OpBits.rdBus18 : OpBits.Statement .rdBus18 := readWord_opBits _

theorem OpBits.rdBus1D : OpBits.Statement .rdBus1D := readWord_opBits _

theorem OpBits.rdBus1E1F (off : Offset) : OpBits.Statement (.rdBus1E1F off) := readWord_opBits _

theorem OpBits.clk (dt : Nat) : OpBits.Statement (.clk dt) := clockWord_opBits _

theorem OpBits.rst : OpBits.Statement .rst := sysWord_opBits _

theorem OpBits.out : OpBits.Statement .out := sysWord_opBits _

end Sys2Proof.Laws
end

