-- ==== Sys2Proof/Laws/Waveform.lean ====
section
/-! SUPPORT. What the oscillator operations can do. -/

namespace Sys2Proof.Machine

/-- The test bit's write, in every case of R76. -/
theorem WaveState.writeTest_cases (p : Params) (w : WaveState) (t : Bool) :
    (w.test = false ∧ t = true
      ∧ w.writeTest p t = { w with acc := 0, shift := if p.testClearsNoise then 0 else w.shift, test := true })
    ∨ (w.test = true ∧ t = false ∧ w.writeTest p t = { w with shift := noiseReload, test := false })
    ∨ (w.test = t ∧ w.writeTest p t = w) := by
  cases w
  rename_i test _ _ _
  cases test <;> cases t <;> simp [WaveState.writeTest, rises, falls]

/-- Under test the clock is a no-op (R80). -/
theorem WaveState.clock_of_test {w : WaveState} (h : w.test = true) (n : Nat) : w.clock n = w := by
  simp [WaveState.clock, h]

/-- Otherwise it advances (R81, R82). -/
theorem WaveState.clock_of_not_test {w : WaveState} (h : w.test = false) (n : Nat) : w.clock n = w.advance n := by
  simp [WaveState.clock, h]

@[simp] theorem WaveState.freq_clock (w : WaveState) (n : Nat) : (w.clock n).freq = w.freq := by
  unfold WaveState.clock; split <;> rfl

@[simp] theorem WaveState.pw_clock (w : WaveState) (n : Nat) : (w.clock n).pw = w.pw := by
  unfold WaveState.clock; split <;> rfl

@[simp] theorem WaveState.waveform_clock (w : WaveState) (n : Nat) : (w.clock n).waveform = w.waveform := by
  unfold WaveState.clock; split <;> rfl

@[simp] theorem WaveState.test_clock (w : WaveState) (n : Nat) : (w.clock n).test = w.test := by
  unfold WaveState.clock; split <;> rfl

@[simp] theorem WaveState.ring_clock (w : WaveState) (n : Nat) : (w.clock n).ring = w.ring := by
  unfold WaveState.clock; split <;> rfl

@[simp] theorem WaveState.sync_clock (w : WaveState) (n : Nat) : (w.clock n).sync = w.sync := by
  unfold WaveState.clock; split <;> rfl

/-- A generator after a clock or a reset of its accumulator keeps its register fields. -/
def WaveState.SameRegisters (w x : WaveState) : Prop :=
  x.freq = w.freq ∧ x.pw = w.pw ∧ x.waveform = w.waveform ∧ x.test = w.test ∧ x.ring = w.ring ∧ x.sync = w.sync

theorem WaveState.SameRegisters.refl (w : WaveState) : w.SameRegisters w := ⟨rfl, rfl, rfl, rfl, rfl, rfl⟩

theorem WaveState.SameRegisters.trans {w x y : WaveState} (h : w.SameRegisters x) (k : x.SameRegisters y) :
    w.SameRegisters y := by
  obtain ⟨h1, h2, h3, h4, h5, h6⟩ := h
  obtain ⟨k1, k2, k3, k4, k5, k6⟩ := k
  exact ⟨k1.trans h1, k2.trans h2, k3.trans h3, k4.trans h4, k5.trans h5, k6.trans h6⟩

theorem WaveState.sameRegisters_clock (w : WaveState) (n : Nat) : w.SameRegisters (w.clock n) :=
  ⟨by simp, by simp, by simp, by simp, by simp, by simp⟩

/-- What the oscillator operations leave alone in a state: everything but the accumulator, the noise register and the
rise latch of its generators. -/
structure State.OscFrame (s t : State) : Prop where
  waves : ∀ v, (s.wave v).SameRegisters (t.wave v)
  envs : ∀ v, t.env v = s.env v
  filter : t.filter = s.filter
  ext : t.ext = s.ext
  busValue : t.busValue = s.busValue
  busTtl : t.busTtl = s.busTtl
  pending : t.pending = s.pending
  returned : t.returned = s.returned

theorem State.OscFrame.refl (s : State) : s.OscFrame s :=
  ⟨fun _ => .refl _, fun _ => rfl, rfl, rfl, rfl, rfl, rfl, rfl⟩

theorem State.OscFrame.trans {s t u : State} (h : s.OscFrame t) (k : t.OscFrame u) : s.OscFrame u :=
  ⟨fun v => (h.waves v).trans (k.waves v), fun v => (k.envs v).trans (h.envs v), k.filter.trans h.filter,
    k.ext.trans h.ext, k.busValue.trans h.busValue, k.busTtl.trans h.busTtl, k.pending.trans h.pending,
    k.returned.trans h.returned⟩

/-- Replacing a generator by one with the same registers. -/
theorem State.oscFrame_setWave (s : State) (v : VoiceId) {w : WaveState} (h : (s.wave v).SameRegisters w) :
    s.OscFrame (s.setWave v w) := by
  refine ⟨fun u => ?_, fun u => by simp, rfl, rfl, rfl, rfl, rfl, rfl⟩
  rw [State.wave_setWave]
  split
  · next e => rw [e]; exact h
  · exact .refl _

theorem State.oscFrame_waveClock (s : State) (v : VoiceId) (n : Nat) : s.OscFrame (s.waveClock v n) :=
  s.oscFrame_setWave v (WaveState.sameRegisters_clock _ _)

/-- `Synchronize` either changes nothing or zeroes the destination's accumulator (R96). -/
theorem State.synchronize_cases (s : State) (v : VoiceId) :
    s.synchronize v = s
    ∨ s.synchronize v = s.setWave (syncDest v) { s.wave (syncDest v) with acc := 0 } := by
  unfold State.synchronize
  split
  · exact .inr rfl
  · exact .inl rfl

theorem State.oscFrame_synchronize (s : State) (v : VoiceId) : s.OscFrame (s.synchronize v) := by
  obtain h | h := s.synchronize_cases v
  · rw [h]; exact .refl _
  · rw [h]; exact s.oscFrame_setWave _ ⟨rfl, rfl, rfl, rfl, rfl, rfl⟩

theorem State.oscFrame_substep (s : State) (n : Nat) : s.OscFrame (s.substep n) :=
  (((((s.oscFrame_waveClock 0 n).trans (State.oscFrame_waveClock _ 1 n)).trans
    (State.oscFrame_waveClock _ 2 n)).trans (State.oscFrame_synchronize _ 0)).trans
    (State.oscFrame_synchronize _ 1)).trans (State.oscFrame_synchronize _ 2)

/-- The oscillator loop touches no register, no envelope, no filter and no bus (R162). -/
theorem State.oscFrame_oscLoop (s : State) (dt : Nat) : s.OscFrame (s.oscLoop dt) := by
  have go : ∀ (f dt : Nat) (s : State), s.OscFrame (State.oscLoop.go f dt s) := by
    intro f
    induction f with
    | zero => intro dt s; exact .refl s
    | succ f ih =>
      intro dt s
      unfold State.oscLoop.go
      split
      · exact .refl s
      · exact (s.oscFrame_substep _).trans (ih _ _)
  exact go dt dt s

/-- An accumulator is at least one away from its next flip of bit 23 (R162). -/
theorem WaveState.edge_pos (w : WaveState) : 0 < w.edge := by
  have h := w.acc.isLt
  unfold WaveState.edge
  split
  · omega
  · next hb =>
    have : w.acc.toNat < 0x800000 := by
      by_contra hc
      exact hb (by
        rw [BitVec.getLsbD, Nat.testBit_eq_decide_div_mod_eq, decide_eq_true_eq]
        omega)
    omega

theorem State.boundSpan_le (s : State) (i : VoiceId) (n : Nat) : s.boundSpan i n ≤ n := by
  unfold State.boundSpan
  split
  · exact Nat.min_le_left _ _
  · exact Nat.le_refl _

theorem State.boundSpan_pos (s : State) (i : VoiceId) {n : Nat} (hn : 0 < n) : 0 < s.boundSpan i n := by
  unfold State.boundSpan
  split
  · next h =>
    have hf : 0 < (s.wave i).freq.toNat := by
      rcases Nat.eq_zero_or_pos (s.wave i).freq.toNat with h0 | h0
      · exact absurd (BitVec.eq_of_toNat_eq (by simpa using h0)) h.2
      · exact h0
    have he := (s.wave i).edge_pos
    have hc : 0 < ceilDiv (s.wave i).edge (s.wave i).freq.toNat := by
      by_contra hz
      have := (ceilDiv_le_iff (a := (s.wave i).edge) (q := 0) hf).mp (by omega)
      omega
    exact Nat.lt_min.mpr ⟨hn, hc⟩
  · exact hn

end Sys2Proof.Machine
end

