-- ==== Sys2Proof/Laws/Step.lean ====
section
/-! SUPPORT. What a step and the shared operations can do, said once. -/

namespace Sys2Proof.Machine

/-- Bus aging, in its two cases (45_sid_top.md R160). -/
theorem State.busAge_cases (s : State) (dt : Nat) :
    (s.busTtl - dt ≤ 0 ∧ s.busAge dt = { s with busValue := 0, busTtl := 0 })
    ∨ (0 < s.busTtl - dt ∧ s.busAge dt = { s with busTtl := s.busTtl - dt }) := by
  unfold State.busAge
  split
  · next h => exact .inl ⟨h, rfl⟩
  · next h => exact .inr ⟨by omega, rfl⟩

/-- A write to the waveform generator of voice `v`: the bus latch, that generator, and nothing else (R150, R151). -/
theorem State.writeWave_spec (p : Params) (s : State) (v : VoiceId) (d : Byte) (f : WaveState → Byte → WaveState) :
    (∀ u, (s.writeWave p v d f).wave u = if u = v then f (s.wave v) d else s.wave u)
    ∧ (∀ u, (s.writeWave p v d f).env u = s.env u)
    ∧ (s.writeWave p v d f).filter = s.filter ∧ (s.writeWave p v d f).ext = s.ext
    ∧ (s.writeWave p v d f).busValue = d ∧ (s.writeWave p v d f).busTtl = p.busTtl
    ∧ (s.writeWave p v d f).pending = s.pending ∧ (s.writeWave p v d f).returned = s.returned := by
  refine ⟨fun u => ?_, fun u => ?_, rfl, rfl, rfl, rfl, rfl, rfl⟩ <;> simp [State.writeWave]

/-- A write to the envelope generator of voice `v`: the bus latch, that generator, and nothing else (R150, R151). -/
theorem State.writeEnv_spec (p : Params) (s : State) (v : VoiceId) (d : Byte) (f : EnvState → Byte → EnvState) :
    (∀ u, (s.writeEnv p v d f).env u = if u = v then f (s.env v) d else s.env u)
    ∧ (∀ u, (s.writeEnv p v d f).wave u = s.wave u)
    ∧ (s.writeEnv p v d f).filter = s.filter ∧ (s.writeEnv p v d f).ext = s.ext
    ∧ (s.writeEnv p v d f).busValue = d ∧ (s.writeEnv p v d f).busTtl = p.busTtl
    ∧ (s.writeEnv p v d f).pending = s.pending ∧ (s.writeEnv p v d f).returned = s.returned := by
  refine ⟨fun u => ?_, fun u => ?_, rfl, rfl, rfl, rfl, rfl, rfl⟩ <;> simp [State.writeEnv]

/-- A CTRL write to voice `v`: the bus latch, both generators of that voice, and nothing else (40_waveform.md R74). -/
theorem State.writeCtrl_spec (p : Params) (s : State) (v : VoiceId) (d : Byte) :
    (∀ u, (s.writeCtrl p v d).wave u = if u = v then (s.wave v).writeCtrl p d else s.wave u)
    ∧ (∀ u, (s.writeCtrl p v d).env u = if u = v then (s.env v).writeGate (ctrlGate d) else s.env u)
    ∧ (s.writeCtrl p v d).filter = s.filter ∧ (s.writeCtrl p v d).ext = s.ext
    ∧ (s.writeCtrl p v d).busValue = d ∧ (s.writeCtrl p v d).busTtl = p.busTtl
    ∧ (s.writeCtrl p v d).pending = s.pending ∧ (s.writeCtrl p v d).returned = s.returned := by
  refine ⟨fun u => ?_, fun u => ?_, rfl, rfl, rfl, rfl, rfl, rfl⟩
  · rw [State.writeCtrl, State.wave, State.voice_setVoice]
    split <;> rfl
  · rw [State.writeCtrl, State.env, State.voice_setVoice]
    split <;> rfl

/-- A write to the filter: the bus latch, the filter, and nothing else (R150, R151). -/
theorem State.writeFilter_spec (p : Params) (s : State) (d : Byte) (f : FilterState → Byte → FilterState) :
    s.writeFilter p d f = { s with busValue := d, busTtl := p.busTtl, filter := f s.filter d } := rfl

/-- A span of the oscillator loop has at most the cycles left, and at least one (R162). -/
theorem State.oscSpan_bounds (s : State) {dt : Nat} (h : 0 < dt) : 0 < s.oscSpan dt ∧ s.oscSpan dt ≤ dt :=
  ⟨s.boundSpan_pos 2 (s.boundSpan_pos 1 (s.boundSpan_pos 0 h)),
    (s.boundSpan_le 2 _).trans ((s.boundSpan_le 1 _).trans (s.boundSpan_le 0 _))⟩

/-- A clock of no cycle does nothing (R159). -/
@[simp] theorem State.clock_zero (p : Params) (s : State) : s.clock p 0 = s := rfl

/-- A clock of at least one cycle is its five stages (R159). -/
theorem State.clock_pos (p : Params) (s : State) {dt : Nat} (h : 0 < dt) :
    s.clock p dt = ((((s.busAge dt).envClockAll dt).oscLoop dt).filterStage p dt).extStage p dt := by
  unfold State.clock
  rw [if_neg (by omega)]

/-- Taking the host's next word. -/
theorem State.take_cases (s : State) :
    (s.pending = [] ∧ s.take = none)
    ∨ ∃ w rest, s.pending = w :: rest ∧ s.take = some (w, { s with pending := rest }) := by
  unfold State.take
  cases h : s.pending with
  | nil => exact .inl ⟨rfl, rfl⟩
  | cons w rest => exact .inr ⟨w, rest, rfl, rfl⟩

/-- Everything a step that goes on can have done: nothing was issued, or one operation ran. -/
theorem step_next_cases {s t : State} (h : step s = .next t) :
    (s.pending = [] ∧ t = s)
    ∨ ∃ w rest i, s.pending = w :: rest ∧ decode w = .ok i ∧ exec i { s with pending := rest } = .next t := by
  obtain ⟨hp, ht⟩ | ⟨w, rest, hp, ht⟩ := s.take_cases
  · simp only [step, ht, Host.Outcome.next.injEq] at h
    exact .inl ⟨hp, h.symm⟩
  · refine .inr ⟨w, rest, ?_⟩
    cases hd : decode w with
    | error why => simp [step, ht, hd] at h
    | ok i =>
      simp only [step, ht, hd] at h
      exact ⟨i, hp, rfl, h⟩

/-- Issuing a word and stepping decodes that word. -/
theorem step_issue (s : State) (w : CommandWord) :
    step (s.issue w) = match decode w with
      | .error why => .refused (.reserved w why)
      | .ok i => exec i s := rfl

end Sys2Proof.Machine
end

