-- ==== Sys2Proof/Tests/Slice0.lean ====
section
/-! SUPPORT. The model's own tests. Expected values are those of spec/95_test_vectors.md (named by their ids there), of
the rules' examples, or of hand calculation from the rules. -/

namespace Sys2Proof.Tests

open Sys2Proof.Machine Sys2Proof.Claims

/-! ## Operand ranges -/

theorem test_illFormed_latch1A1B : (Instr.wrLatch1A1B 0x1C 0).wellFormed = false := by decide

theorem test_illFormed_latch1C1F : (Instr.wrLatch1C1F 0x1B 0).wellFormed = false := by decide

theorem test_illFormed_read00to0F : (Instr.rdBus00to0F 0x10).wellFormed = false := by decide

theorem test_illFormed_read10to17 : (Instr.rdBus10to17 0x18).wellFormed = false := by decide

theorem test_illFormed_read1E1F : (Instr.rdBus1E1F 0x1D).wellFormed = false := by decide

theorem test_illFormed_clock : (Instr.clk 16384).wellFormed = false := by decide

/-! ## Decoding: each word is written out from 30_encoding.md R54 (format, bit 13, offset, data) -/

theorem test_decode_wrFreqLo1 : decode 0b01_0_00000_10100101 = .ok (.wrFreqLo1 0xA5) := by decide

theorem test_decode_wrFreqHi1 : decode 0b01_0_00001_10101100 = .ok (.wrFreqHi1 0xAC) := by decide

theorem test_decode_wrPwLo1 : decode 0b01_0_00010_10110011 = .ok (.wrPwLo1 0xB3) := by decide

theorem test_decode_wrPwHi1 : decode 0b01_0_00011_10111010 = .ok (.wrPwHi1 0xBA) := by decide

theorem test_decode_wrCtrl1 : decode 0b01_0_00100_11000001 = .ok (.wrCtrl1 0xC1) := by decide

theorem test_decode_wrAd1 : decode 0b01_0_00101_11001000 = .ok (.wrAd1 0xC8) := by decide

theorem test_decode_wrSr1 : decode 0b01_0_00110_11001111 = .ok (.wrSr1 0xCF) := by decide

theorem test_decode_wrFreqLo2 : decode 0b01_0_00111_11010110 = .ok (.wrFreqLo2 0xD6) := by decide

theorem test_decode_wrFreqHi2 : decode 0b01_0_01000_11011101 = .ok (.wrFreqHi2 0xDD) := by decide

theorem test_decode_wrPwLo2 : decode 0b01_0_01001_11100100 = .ok (.wrPwLo2 0xE4) := by decide

theorem test_decode_wrPwHi2 : decode 0b01_0_01010_11101011 = .ok (.wrPwHi2 0xEB) := by decide

theorem test_decode_wrCtrl2 : decode 0b01_0_01011_11110010 = .ok (.wrCtrl2 0xF2) := by decide

theorem test_decode_wrAd2 : decode 0b01_0_01100_11111001 = .ok (.wrAd2 0xF9) := by decide

theorem test_decode_wrSr2 : decode 0b01_0_01101_00000000 = .ok (.wrSr2 0x00) := by decide

theorem test_decode_wrFreqLo3 : decode 0b01_0_01110_00000111 = .ok (.wrFreqLo3 0x07) := by decide

theorem test_decode_wrFreqHi3 : decode 0b01_0_01111_00001110 = .ok (.wrFreqHi3 0x0E) := by decide

theorem test_decode_wrPwLo3 : decode 0b01_0_10000_00010101 = .ok (.wrPwLo3 0x15) := by decide

theorem test_decode_wrPwHi3 : decode 0b01_0_10001_00011100 = .ok (.wrPwHi3 0x1C) := by decide

theorem test_decode_wrCtrl3 : decode 0b01_0_10010_00100011 = .ok (.wrCtrl3 0x23) := by decide

theorem test_decode_wrAd3 : decode 0b01_0_10011_00101010 = .ok (.wrAd3 0x2A) := by decide

theorem test_decode_wrSr3 : decode 0b01_0_10100_00110001 = .ok (.wrSr3 0x31) := by decide

theorem test_decode_wrFcLo : decode 0b01_0_10101_00111000 = .ok (.wrFcLo 0x38) := by decide

theorem test_decode_wrFcHi : decode 0b01_0_10110_00111111 = .ok (.wrFcHi 0x3F) := by decide

theorem test_decode_wrResFilt : decode 0b01_0_10111_01000110 = .ok (.wrResFilt 0x46) := by decide

theorem test_decode_wrModeVol : decode 0b01_0_11000_01001101 = .ok (.wrModeVol 0x4D) := by decide

theorem test_decode_wrLatch19 : decode 0b01_0_11001_01010100 = .ok (.wrLatch19 0x54) := by decide

theorem test_decode_wrLatch1A1B_1A : decode 0b01_0_11010_00010010 = .ok (.wrLatch1A1B 0x1A 0x12) := by decide

theorem test_decode_wrLatch1A1B_1B : decode 0b01_0_11011_00010010 = .ok (.wrLatch1A1B 0x1B 0x12) := by decide

theorem test_decode_wrLatch1C1F_1C : decode 0b01_0_11100_00010010 = .ok (.wrLatch1C1F 0x1C 0x12) := by decide

theorem test_decode_wrLatch1C1F_1F : decode 0b01_0_11111_00010010 = .ok (.wrLatch1C1F 0x1F 0x12) := by decide

theorem test_decode_rdPotX : decode 0b00_0_11001_00000000 = .ok .rdPotX := by decide

theorem test_decode_rdPotY : decode 0b00_0_11010_00000000 = .ok .rdPotY := by decide

theorem test_decode_rdOsc3 : decode 0b00_0_11011_00000000 = .ok .rdOsc3 := by decide

theorem test_decode_rdEnv3 : decode 0b00_0_11100_00000000 = .ok .rdEnv3 := by decide

theorem test_decode_rdBus18 : decode 0b00_0_11000_00000000 = .ok .rdBus18 := by decide

theorem test_decode_rdBus1D : decode 0b00_0_11101_00000000 = .ok .rdBus1D := by decide

theorem test_decode_rdBus00to0F_0 : decode 0b00_0_00000_00000000 = .ok (.rdBus00to0F 0x00) := by decide

theorem test_decode_rdBus00to0F_F : decode 0b00_0_01111_00000000 = .ok (.rdBus00to0F 0x0F) := by decide

theorem test_decode_rdBus10to17_10 : decode 0b00_0_10000_00000000 = .ok (.rdBus10to17 0x10) := by decide

theorem test_decode_rdBus10to17_17 : decode 0b00_0_10111_00000000 = .ok (.rdBus10to17 0x17) := by decide

theorem test_decode_rdBus1E1F_1E : decode 0b00_0_11110_00000000 = .ok (.rdBus1E1F 0x1E) := by decide

theorem test_decode_rdBus1E1F_1F : decode 0b00_0_11111_00000000 = .ok (.rdBus1E1F 0x1F) := by decide

theorem test_decode_clk : decode 0b10_00000000101100 = .ok (.clk 44) := by decide

theorem test_decode_rst : decode 0b11_00000000000000 = .ok .rst := by decide

theorem test_decode_out : decode 0b11_00000000000001 = .ok .out := by decide

theorem test_decode_reservedReadBit : decode 0x2000 = .error .readBit13 := by decide

theorem test_decode_reservedReadByte : decode 0x0001 = .error .readLowByte := by decide

theorem test_decode_reservedWrite : decode 0x6000 = .error .writeBit13 := by decide

theorem test_decode_reservedSys : decode 0xFFFF = .error .sysFunc := by decide

theorem test_decodeTableWord : decodeTableWord 16 0x4421 = some (.wrCtrl1 0x21) := by decide

/-! ## Configurations and states -/

/-- The configuration of 95_test_vectors.md section 0, with the premise `F0 = 5000` of P6 at 2047 and 1000 elsewhere,
and the premises of W12 on the tables. -/
def vectorParams : Params where
  model := .mos8580
  waveST := fun _ i => if i = 0xABC then 0x5A else 0
  wavePT := fun _ i => if i = 0x200 then 0x7F else 0
  wavePS := fun _ _ => 0
  wavePST := fun _ _ => 0
  f0 := fun _ i => if i = 2047 then 5000 else 1000
  noiseTap := defaultNoiseTap
  filterEnabled := true
  extFilterEnabled := true
  mute := fun _ => false
  passFreq := none
  sampleRate := 22050
  busTtl := 0x2000
  testClearsNoise := false
  extIn := 0

/-- The vectors marked 6581. -/
def params6581 : Params := { vectorParams with model := .mos6581 }

/-- Both filters disabled, every voice muted. -/
def disabledParams : Params :=
  { params6581 with filterEnabled := false, extFilterEnabled := false, mute := fun _ => true }

/-- The reset state with another waveform generator in voice `v`. -/
def withWave (v : VoiceId) (x : WaveState) : State := State.reset.setWave v x

/-- The reset state with another envelope in voice `v`. -/
def withEnv (v : VoiceId) (e : EnvState) : State := State.reset.setEnv v e

/-- Voice 0 drives voice 1 in hard sync (W15). -/
def syncState : State :=
  (withWave 0 { WaveState.reset with freq := 0x8000 }).setWave 1 { WaveState.reset with freq := 0x100, sync := true }

/-- What a field of the outcome is, where the operation completes. -/
def after {α : Type} (o : Result) (f : State → α) : Option α :=
  match o with
  | .next t => some (f t)
  | .fault _ => none
  | .refused _ => none

/-! ## Writes -/

/-- W1. -/
theorem test_freqHi_keepsLow :
    after (exec (.wrFreqHi1 0xFF) (withWave 0 { WaveState.reset with freq := 0x08E8 })) (fun t => (t.wave 0).freq)
      = some 0xFFE8 := by decide

/-- R70's example. -/
theorem test_freqLo_keepsHigh :
    after (exec (.wrFreqLo3 0xE8) (withWave 2 { WaveState.reset with freq := 0x1234 })) (fun t => (t.wave 2).freq)
      = some 0x12E8 := by decide

/-- R72's example. -/
theorem test_pwLo_keepsHigh :
    after (exec (.wrPwLo2 0xFF) (withWave 1 { WaveState.reset with pw := 0x800 })) (fun t => (t.wave 1).pw)
      = some 0x8FF := by decide

/-- W2. -/
theorem test_pwHi_ignoresHighNibble :
    after (exec (.wrPwHi1 0xFF) (withWave 0 { WaveState.reset with pw := 0x034 })) (fun t => ((t.wave 0).pw, t.busValue))
      = some (0xF34, 0xFF) := by decide

/-- W3, first write. -/
theorem test_ctrl_testOn :
    after (exec (.wrCtrl1 0x08) (withWave 0 { WaveState.reset with acc := 0x123456, shift := 1 }))
        (fun t => ((t.wave 0).acc, (t.wave 0).shift, (t.wave 0).test))
      = some (0, 1, true) := by decide

/-- W3, second write. -/
theorem test_ctrl_testOff :
    after (exec (.wrCtrl1 0x00) (withWave 0 { WaveState.reset with shift := 1, test := true }))
        (fun t => ((t.wave 0).shift, (t.wave 0).test))
      = some (0x7FFFF8, false) := by decide

/-- R75's example. -/
theorem test_ctrl_fields :
    after (exec (.wrCtrl2 0x13) State.reset)
        (fun t => ((t.wave 1).waveform, (t.wave 1).sync, (t.wave 1).ring, (t.env 1).gate))
      = some (1, true, false, true) := by decide

/-- E9: in DECAY_SUSTAIN an AD write reloads the period from decay only. -/
theorem test_ad_decayReload :
    after (exec (.wrAd1 0x0A) (withEnv 0 { EnvState.reset with state := .decaySustain }))
        (fun t => ((t.env 0).decay, (t.env 0).ratePeriod))
      = some (10, 1954) := by decide

/-- E13. -/
theorem test_sr_releaseReload :
    after (exec (.wrSr1 0x03) State.reset) (fun t => ((t.env 0).release, (t.env 0).ratePeriod)) = some (3, 95) := by
  decide

/-- E14. -/
theorem test_sr_attackKeepsPeriod :
    after (exec (.wrSr2 0x0F) (withEnv 1 { EnvState.reset with state := .attack })) (fun t => (t.env 1).ratePeriod)
      = some 9 := by decide

/-- F1, second write. -/
theorem test_fcHi :
    after (exec (.wrFcHi 0x80) { State.reset with filter := { FilterState.reset with fc := 7 } }) (fun t => t.filter.fc)
      = some 0x407 := by decide

/-- F1, first write. -/
theorem test_fcLo : after (exec (.wrFcLo 0xFF) State.reset) (fun t => t.filter.fc) = some 0x007 := by decide

/-- F2. -/
theorem test_resFilt :
    after (exec (.wrResFilt 0xF1) State.reset) (fun t => (t.filter.res, t.filter.filt, q1024 t.filter.res))
      = some (15, 1, 600) := by decide

/-- F3. -/
theorem test_modeVol :
    after (exec (.wrModeVol 0x8F) State.reset) (fun t => (t.filter.vol, t.filter.mode, t.filter.voice3off))
      = some (15, 0, true) := by decide

/-- T4, the write. -/
theorem test_latch19 :
    after (exec (.wrLatch19 0xAA) State.reset) (fun t => (t.busValue, t.busTtl)) = some (0xAA, 8192) := by decide

/-! ## Reads, OUTPUT, RESET -/

/-- T5: noise of the reset register. -/
theorem test_osc3_noise :
    after (exec .rdOsc3 (withWave 2 { WaveState.reset with waveform := 8 })) (fun t => t.returned)
      = some [.byte 0xFE] := by decide

/-- R154's example. -/
theorem test_osc3_sawtooth :
    after (exec .rdOsc3 (withWave 2 { WaveState.reset with waveform := 2, acc := 0x064000 })) (fun t => t.returned)
      = some [.byte 0x06] := by decide

/-- R155's example. -/
theorem test_env3 :
    after (exec .rdEnv3 (withEnv 2 { EnvState.reset with level := 0x0B })) (fun t => t.returned)
      = some [.byte 0x0B] := by decide

/-- T4, the read of POTX. -/
theorem test_potX : after (exec .rdPotX { State.reset with busValue := 0xAA }) (fun t => t.returned) = some [.byte 0] := by
  decide

/-- T6. -/
theorem test_output_scalesAndClips :
    [0, 1000, -1000, 10, -10, 400000, -400000, 360437].map (fun v => (⟨0, 0, v⟩ : ExtFilterState).sample.toInt)
      = [0, 90, -90, 0, 0, 32767, -32768, 32767] := by decide

/-- RESET keeps what the host was given (log entry 3). -/
theorem test_reset_block :
    after (exec .rst { State.reset with busValue := 3, returned := [.byte 1] }) (fun t => (t.busValue, t.returned))
      = some (0, [.byte 1]) := by decide

/-! ## Oscillators -/

/-- W4. -/
theorem test_clock_underTest :
    let x := { WaveState.reset with test := true, shift := 0x7FFFE0, freq := 0x1000, msbRising := true }
    x.clock 1000 = x := by decide

/-- W5. -/
theorem test_clock_msbRising :
    (fun x : WaveState => (x.acc, x.msbRising)) (WaveState.clock { WaveState.reset with freq := 1, acc := 0x7FFFFF } 1)
      = (0x800000, true) := by decide

/-- W5. -/
theorem test_clock_wraps :
    (fun x : WaveState => (x.acc, x.msbRising)) (WaveState.clock { WaveState.reset with freq := 0x20, acc := 0xFFFFF0 } 1)
      = (0x000010, false) := by decide

/-- W6. -/
theorem test_noiseClocks :
    [noiseClocks 0 0x80000, noiseClocks 0 0x7FFFF, noiseClocks 0x7FFFF 1, noiseClocks 0x80000 0x7FFFF,
      noiseClocks 0 0x300000, noiseClocks 0 0x1000000, noiseClocks 0xFFFFFF 0x80001] = [1, 0, 1, 0, 3, 16, 1] := by decide

/-- W7. -/
theorem test_lfsr : lfsrSteps 5 0x7FFFF8 = 0x7FFF00 := by decide

/-- W8. -/
theorem test_triangle :
    [0x000000, 0x400000, 0x7FFFFF, 0x800000, 0xC00000, 0xFFFFFF].map
        (fun a => ({ WaveState.reset with waveform := 1, acc := a } : WaveState).out vectorParams 0)
      = [0x000, 0x800, 0xFFE, 0xFFE, 0x7FE, 0x000] := by decide

/-- W9. -/
theorem test_triangle_ring :
    [0x400000, 0xC00000].map
        (fun a => ({ WaveState.reset with waveform := 1, ring := true, acc := a } : WaveState).out vectorParams 0x800000)
      = [0x7FE, 0x800] := by decide

/-- W11. -/
theorem test_pulse :
    [((0x800, 0x7FF000) : BitVec 12 × BitVec 24), (0x800, 0x800000), (0, 5), (0xFFF, 0xFFF000), (0xFFF, 0xFFE000)].map
        (fun x => ({ WaveState.reset with waveform := 4, pw := x.1, acc := x.2 } : WaveState).out vectorParams 0)
      = [0x000, 0xFFF, 0xFFF, 0xFFF, 0x000] := by decide

/-- W12, W13. -/
theorem test_combined :
    ({ WaveState.reset with waveform := 3, acc := 0xABC000 } : WaveState).out vectorParams 0 = 0x5A0
      ∧ ({ WaveState.reset with waveform := 5, acc := 0x200000 } : WaveState).out vectorParams 0 = 0x7F0
      ∧ ({ WaveState.reset with waveform := 5, acc := 0x200000, pw := 0xFFF } : WaveState).out vectorParams 0 = 0 := by
  decide

/-- W15. -/
theorem test_clk_hardSync :
    after (exec (.clk 300) syncState) (fun t => ((t.wave 0).acc, (t.wave 1).acc)) = some (0x960000, 0x2C00) := by
  decide +kernel

/-- W16: voice 1 is itself synced by a rising source, so voice 2 is not reset. -/
theorem test_sync_chain :
    (fun t : State => ((t.wave 0).acc, (t.wave 1).acc, (t.wave 2).acc))
        ((((withWave 0 { WaveState.reset with freq := 0x8000 }).setWave 1
          { WaveState.reset with freq := 0x8000, sync := true }).setWave 2
          { WaveState.reset with freq := 0x100, sync := true }).oscLoop 256)
      = (0x800000, 0x000000, 0x010000) := by decide +kernel

/-- W17: a latch that was set before the test bit resets the destination again. -/
theorem test_stale_latch :
    ((((withWave 0 { WaveState.reset with test := true, msbRising := true }).setWave 1
      { WaveState.reset with freq := 0x100, sync := true }).oscLoop 10).wave 1).acc = 0 := by decide +kernel

/-! ## Envelopes -/

/-- An envelope in attack with all fields 0 (E1). -/
def attacking : EnvState := { EnvState.reset with state := .attack, gate := true, holdZero := false }

/-- E1. -/
theorem test_env_firstStep :
    ((attacking.clock 8).level, (attacking.clock 8).rateCounter, (attacking.clock 9).level,
      (attacking.clock 9).rateCounter) = (0, 8, 1, 0) := by decide

/-- E3. -/
theorem test_env_delay :
    (fun e : EnvState => (e.rateCounter, e.level, (e.clock 1).level))
        (({ attacking with rateCounter := 100, level := 0x10 } : EnvState).clock 32675) = (8, 0x10, 0x11) := by decide

/-- E4: attack from 0xFF wraps to 0 and freezes. -/
theorem test_env_attackFromTop :
    (fun e : EnvState => (e.level, e.holdZero, e.state)) (({ attacking with level := 0xFF } : EnvState).clock 9)
      = (0x00, true, .attack) := by decide

/-- E5: release from 0 without the freeze wraps to 0xFF. -/
theorem test_env_releaseFromZero :
    (fun e : EnvState => (e.level, e.expPeriod)) (({ EnvState.reset with holdZero := false } : EnvState).clock 9)
      = (0xFF, 1) := by decide

/-- An envelope below its sustain level (E6). -/
def sustaining : EnvState :=
  { EnvState.reset with
    state := .decaySustain
    holdZero := false
    sustain := 8
    level := 0x40
    expPeriod := 4 }

/-- E6: the level falls on when it is below the sustain level. -/
theorem test_env_belowSustain :
    (fun e : EnvState => (e.level, e.expCounter))
        (sustaining.clock 36) = (0x3F, 0) := by decide

/-- E15: the counter wraps from 0x7FFF to 1. -/
theorem test_env_counterWrap :
    (({ attacking with rateCounter := 0x7FF0 } : EnvState).clock 16).rateCounter = 1 := by decide

/-! ## Voice, filter, external filter, bus -/

/-- V1, V5, V10. -/
theorem test_voiceOut :
    (fun s : State => (s.voiceOut params6581 0, s.voiceOut vectorParams 0, s.voiceOut disabledParams 0))
        ((withWave 0 { WaveState.reset with waveform := 4 }).setEnv 0 { EnvState.reset with level := 255 })
      = (1337985, 521985, 0) := by decide

/-- F4, X1. -/
theorem test_coefficients :
    [angularStep 4000 1, angularStep 1000 1, angularStep 1 1, w0lp vectorParams, angularStep 20000000 1000,
      w0lp { vectorParams with passFreq := some 20000000 }] = [26354, 6588, 7, 65373, 131768, 104858] := by decide

/-- A filter with voice 0 routed and the coefficient clamped (F6). -/
def routedFilter : FilterState := { FilterState.reset with fc := 2047, filt := 1 }

/-- F6: two chunks with `Vi = 1000`. -/
theorem test_filter_twoChunks :
    (fun f : FilterState => (f.vhp, f.vbp, f.vlp)) (routedFilter.clock vectorParams 16 128000 0 0 0)
      = (-715, 202, 0) := by decide

/-- F10, F11: voice-3-off silences voice 2 only where it is not routed. -/
theorem test_filter_voice3off :
    [(2 : BitVec 4), 4].map (fun r => (fun f : FilterState => (f.vnf, f.vhp))
        (({ FilterState.reset with filt := r, voice3off := true } : FilterState).clock vectorParams 1 12800 25600 38400 0))
      = [(100, -200), (300, -300)] := by decide

/-- F12. -/
theorem test_filter_disabled :
    (({ FilterState.reset with voice3off := true, vol := 15, vlp := 7 } : FilterState).clock
      { disabledParams with model := .mos8580 } 1 12800 25600 38400 0).out { disabledParams with model := .mos8580 }
      = 4500 := by decide

/-- X2. -/
theorem test_ext_twoChunks :
    (⟨0, 0, 0⟩ : ExtFilterState).clock vectorParams 16 1000 = ⟨748, 0, 498⟩ := by decide

/-- X6. -/
theorem test_ext_negative : (⟨-5, 0, 0⟩ : ExtFilterState).clock vectorParams 8 0 = ⟨-3, -1, -5⟩ := by decide

/-- X7. -/
theorem test_ext_disabled :
    (fun x : ExtFilterState => (x.vo, x.sampleValue)) ((⟨5, 6, 7⟩ : ExtFilterState).clock disabledParams 3 176790)
      = (-103275, -9388) := by decide

/-- T2: `CLK $1FFF` leaves the byte for one cycle. -/
theorem test_clk_busTtl :
    after (exec (.clk 0x1FFF) { State.reset with busValue := 0x21, busTtl := 0x2000 }) (fun t => (t.busValue, t.busTtl))
      = some (0x21, 1) := by decide +kernel

/-- The host issues a word, and the very next step runs it. -/
theorem test_withFetchWord :
    after (step (State.reset.withFetchWord 16 0x4421)) (fun t => ((t.wave 0).waveform, (t.env 0).state, t.pending))
      = some (2, .attack, []) := by decide

/-- T10. -/
theorem test_reserved_refused : step (State.reset.withFetchWord 16 0x6000) = .refused (.reserved 0x6000 .writeBit13) :=
  rfl

/-! ## Witnesses: states and operands that meet the hypotheses of the statements with hypotheses -/

/-- A legal state in which voice 0 is under test, voice 1 is its sync destination and its envelope is frozen. -/
def testedState : State :=
  (withWave 0 { WaveState.reset with test := true, freq := 0x8000 }).setWave 1 { WaveState.reset with sync := true }

theorem witness_DecodeOfEncodeIsTheInstruction :
    (Instr.clk 16383).wellFormed = true ∧ (Instr.wrLatch1A1B 0x1B 0xFF).wellFormed = true
      ∧ (Instr.wrLatch1C1F 0x1F 0).wellFormed = true ∧ (Instr.rdBus00to0F 0x0F).wellFormed = true
      ∧ (Instr.rdBus10to17 0x17).wellFormed = true ∧ (Instr.rdBus1E1F 0x1F).wellFormed = true := by decide

theorem witness_DecodedWordIsItsInstructionsWord : decode 0x4421 = .ok (.wrCtrl1 0x21) := by decide

theorem witness_ExactlyReservedWordsAreRefused :
    (State.reset.issue 0x2000).pending = 0x2000 :: [] ∧ (State.reset.issue 0x1F00).pending = 0x1F00 :: []
      ∧ ¬ ReservedPattern (0x1F00#16).toNat ∧ ReservedPattern (0x2000#16).toNat ∧ ReservedPattern (0x6000#16).toNat
      ∧ ReservedPattern (0x0001#16).toNat ∧ ReservedPattern (0xC002#16).toNat ∧ ¬ ReservedPattern (0xC001#16).toNat := by
  unfold ReservedPattern
  decide

theorem witness_StepRunsTheDecodedInstruction :
    (State.reset.issue 0x802C).pending = 0x802C :: [] ∧ decode 0x802C = .ok (.clk 44) := by decide

theorem witness_StepWithNothingIssuedChangesNothing : State.reset.pending = [] := rfl

theorem witness_TwoByteWritesAssembleTheirRegister :
    (∃ t u, exec (.wrFreqLo1 0xE8) State.reset = .next t ∧ exec (.wrFreqHi1 0x08) t = .next u)
      ∧ (∃ t u, exec (.wrFreqLo2 0xE8) State.reset = .next t ∧ exec (.wrFreqHi2 0x08) t = .next u)
      ∧ (∃ t u, exec (.wrFreqLo3 0xE8) State.reset = .next t ∧ exec (.wrFreqHi3 0x08) t = .next u)
      ∧ (∃ t u, exec (.wrPwLo1 0xE8) State.reset = .next t ∧ exec (.wrPwHi1 0xF8) t = .next u)
      ∧ (∃ t u, exec (.wrPwLo2 0xE8) State.reset = .next t ∧ exec (.wrPwHi2 0xF8) t = .next u)
      ∧ (∃ t u, exec (.wrPwLo3 0xE8) State.reset = .next t ∧ exec (.wrPwHi3 0xF8) t = .next u)
      ∧ (∃ t u, exec (.wrFcLo 0xFF) State.reset = .next t ∧ exec (.wrFcHi 0x80) t = .next u) :=
  ⟨⟨_, _, rfl, rfl⟩, ⟨_, _, rfl, rfl⟩, ⟨_, _, rfl, rfl⟩, ⟨_, _, rfl, rfl⟩, ⟨_, _, rfl, rfl⟩, ⟨_, _, rfl, rfl⟩,
    ⟨_, _, rfl, rfl⟩⟩

theorem witness_AfterResetTheHostReadsZeros :
    (∃ t, exec .rst syncState = .next t) ∧ decode (readWord 0x1B) = .ok .rdOsc3 ∧ params6581.mute 2 = false
      ∧ params6581.model = .mos6581 := ⟨⟨_, rfl⟩, rfl, rfl, rfl⟩

theorem witness_BusByteLivesForItsTime :
    decode (writeWord 0x1F 0xAB) = .ok (.wrLatch1C1F 0x1F 0xAB)
      ∧ (∃ t u, exec (.wrLatch1C1F 0x1F 0xAB) State.reset = .next t ∧ exec (.clk 0x1FFF) t = .next u)
      ∧ ∃ t u, exec (.wrLatch1C1F 0x1F 0xAB) State.reset = .next t ∧ exec (.clk 0x2000) t = .next u :=
  ⟨rfl, ⟨_, _, rfl, rfl⟩, ⟨_, _, rfl, rfl⟩⟩

theorem witness_OscillatorSpansEndAtSyncEdges :
    SyncDriver syncState 0 ∧ 255 < syncState.oscSpan 300 ∧ syncState.oscSpan 300 < 300 := by
  unfold SyncDriver
  decide

theorem witness_OscillatorClockAdvancesThePhase :
    (testedState.wave 0).test = true ∧ (syncState.wave 0).test = false := ⟨rfl, rfl⟩

theorem witness_NoiseStepsOncePerBitNineteenRise : (syncState.wave 0).test = false := rfl

theorem witness_SynchronizeZeroesOnlyTheDestination :
    (((syncState.substep 256).wave 0).msbRising = true ∧ ((syncState.substep 256).wave 1).sync = true
        ∧ ¬ (((syncState.substep 256).wave 0).sync = true ∧ ((syncState.substep 256).wave 2).msbRising = true))
      ∧ ¬ ((syncState.wave 0).msbRising = true ∧ (syncState.wave 1).sync = true
        ∧ ¬ ((syncState.wave 0).sync = true ∧ (syncState.wave 2).msbRising = true)) := by decide

theorem witness_SubstepClocksThenSynchronizes :
    [2, 0, 1].Perm ([0, 1, 2] : List VoiceId) ∧ (synced (fun v => (syncState.wave v).clock 256) 1).acc = 0
      ∧ ((syncState.wave 1).clock 256).acc = 0x10000 := by decide

/-- The values R6 decides: both filters enabled (D19), no voice muted (D20), `TEST_CLEARS_NOISE` (D14), `BUS_TTL`
(D11), `ext_in` (D18). -/
theorem test_decided_parameters :
    params.filterEnabled = true ∧ params.extFilterEnabled = true ∧ (∀ v, params.mute v = false)
      ∧ params.testClearsNoise = false ∧ params.busTtl = 0x2000 ∧ params.extIn = 0 ∧ params.sampleRate = 22050 :=
  ⟨rfl, rfl, fun _ => rfl, rfl, rfl, rfl, rfl⟩

theorem witness_OscillatorLoopEqualsCycleByCycle :
    (∀ v, ¬ StaleLatch syncState v) ∧ ∃ t, exec (.clk 300) syncState = .next t :=
  ⟨by unfold StaleLatch; decide, _, rfl⟩

theorem witness_TestBitFreezesTheOscillator :
    testedState.Legal ∧ (testedState.wave 0).test = true ∧ ∃ t, exec (.clk 300) testedState = .next t :=
  ⟨by decide, rfl, _, rfl⟩

theorem witness_EnvelopeStepFollowsItsPhase :
    (EnvState.reset.state ≠ .attack ∧ ({ EnvState.reset with expPeriod := 30 } : EnvState).expCounter + 1 ≠ 30)
      ∧ (EnvState.reset.expCounter + 1 = EnvState.reset.expPeriod ∧ EnvState.reset.holdZero = true)
      ∧ (attacking.state = .attack ∧ attacking.holdZero = false) := by decide

theorem witness_EnvelopeStepsAfterTheAdsrDelay :
    attacking.Legal ∧ attacking.rateCounter < attacking.ratePeriod
      ∧ ({ attacking with rateCounter := 9 } : EnvState).Legal
      ∧ ({ attacking with rateCounter := 0x7FFF } : EnvState).Legal := by decide

theorem witness_EnvelopeClockEqualsCycleByCycle : ({ attacking with rateCounter := 0x7FFF } : EnvState).Legal := by decide

theorem witness_FrozenEnvelopeWaitsForARisingGate :
    (testedState.env 0).holdZero = true ∧ (testedState.env 0).level = 0
      ∧ (∃ t, exec (.clk 300) testedState = .next t) ∧ ∃ t, exec (.wrCtrl1 0x01) testedState = .next t :=
  ⟨rfl, rfl, ⟨_, rfl⟩, ⟨_, rfl⟩⟩

theorem witness_FullAttackTakesItsCycles :
    attacking.state = .attack ∧ attacking.rateCounter = 0 ∧ attacking.level = 0 ∧ attacking.holdZero = false
      ∧ attacking.ratePeriod = ratePeriodOf attacking.attack ∧ 2294 < 255 * ratePeriodOf attacking.attack := by decide

/-- An envelope at the top of its release. -/
def releasing : EnvState := { EnvState.reset with level := 0xFF, holdZero := false }

theorem witness_FullReleaseTakesItsCycles :
    releasing.state = .release ∧ releasing.rateCounter = 0 ∧ releasing.level = 0xFF ∧ releasing.holdZero = false
      ∧ releasing.expCounter = 0 ∧ releasing.expPeriod = 1 ∧ releasing.ratePeriod = ratePeriodOf releasing.release
      ∧ 6803 < 756 * ratePeriodOf releasing.release := by decide

theorem witness_ClockSplitsKeepEnvelopesAndBus :
    testedState.Legal ∧ ∃ t u x, exec (.clk 150) testedState = .next t ∧ exec (.clk 150) t = .next u
      ∧ exec (.clk (150 + 150)) testedState = .next x :=
  ⟨by decide, _, _, _, rfl, rfl, rfl⟩

theorem witness_VoiceOutputFormulaAndRange :
    disabledParams.mute 0 = true ∧ (params6581.mute 0 = false ∧ params6581.model = .mos6581)
      ∧ (vectorParams.mute 0 = false ∧ vectorParams.model = .mos8580) := by decide

theorem witness_ExternalLowPassCoefficientIsTheRoundedRealValue :
    ({ vectorParams with passFreq := some 15915600 } : Params).passFreq = some 15915600 ∧ vectorParams.passFreq = none :=
  ⟨rfl, rfl⟩

theorem witness_FilterClockFollowsItsChunks :
    vectorParams.filterEnabled = true ∧ (1 ≤ 1 ∧ 1 ≤ 8) ∧ (1 ≤ 8 ∧ 8 ≤ 8) ∧ 8 < 9
      ∧ disabledParams.filterEnabled = false := by decide

theorem witness_FilterOutputMixesTheSelectedTaps :
    vectorParams.filterEnabled = true ∧ disabledParams.filterEnabled = false := by decide

theorem witness_ExternalFilterClockFollowsItsChunks :
    vectorParams.extFilterEnabled = true ∧ (1 ≤ 1 ∧ 1 ≤ 8) ∧ (1 ≤ 8 ∧ 8 ≤ 8) ∧ 8 < 9
      ∧ disabledParams.extFilterEnabled = false := by decide

theorem witness_StepKeepsTheStateLegal :
    (testedState.issue 0x4421).Legal ∧ ∃ t, step (testedState.issue 0x4421) = .next t := ⟨by decide, _, rfl⟩

theorem witness_ControlBitsChangeOnlyByControlWrites :
    (∃ t, exec (.wrCtrl2 0xFF) syncState = .next t) ∧ Instr.wrCtrl2 0xFF ≠ .rst
      ∧ ∀ d, Instr.wrCtrl2 0xFF ≠ ctrlOf 0 d := ⟨⟨_, rfl⟩, by decide, fun _ h => by cases h⟩

theorem witness_TimeAdvancesOnlyByClock :
    (∃ t, exec (.wrCtrl1 0x08) syncState = .next t) ∧ Instr.wrCtrl1 0x08 ≠ .rst
      ∧ ∀ dt, Instr.wrCtrl1 0x08 ≠ .clk dt := ⟨⟨_, rfl⟩, by decide, fun _ h => by cases h⟩

theorem witness_ClockRunsItsStepsInOrder : (0 : Nat) = 0 ∧ 0 < 1 ∧ 0 < 16383 := by decide

end Sys2Proof.Tests
end

section
/-! The per-model constants of 00_scope.md R7 as values. -/

namespace Sys2Proof.Machine

@[simp] theorem waveZero_mos6581 : waveZero .mos6581 = 0x380 := rfl

@[simp] theorem waveZero_mos8580 : waveZero .mos8580 = 0x800 := rfl

@[simp] theorem voiceDc_mos6581 : voiceDc .mos6581 = 522240 := by norm_num [voiceDc]

@[simp] theorem voiceDc_mos8580 : voiceDc .mos8580 = 0 := rfl

@[simp] theorem mixerDcFilter_mos8580 : mixerDcFilter .mos8580 = 0 := rfl

@[simp] theorem mixerDcExt_mos8580 : mixerDcExt .mos8580 = 0 := rfl

/-- The quotient truncates toward zero and the shift rounds down (R11), so the order of the two matters. -/
@[simp] theorem mixerDcFilter_mos6581 : mixerDcFilter .mos6581 = -454 :=
  calc mixerDcFilter .mos6581
    _ = Int.tdiv (-1044225) 18 >>> 7 := rfl
    _ = (-58012) >>> 7 := by decide
    _ = -454 := by decide

/-- The chain of values R7 itself gives: `2389988 >> 7 = 18671`, then `18671 · 15`. -/
@[simp] theorem mixerDcExt_mos6581 : mixerDcExt .mos6581 = 280065 :=
  calc mixerDcExt .mos6581
    _ = ((3200 * 0xFF * 3 - Int.tdiv 1044225 18) >>> 7) * 0x0F := rfl
    _ = ((2448000 - 58012) >>> 7) * 0x0F := by decide
    _ = 18671 * 15 := by decide
    _ = 280065 := by norm_num

/-- Settles O47: the constants are those of R7, one lemma per constant and model. -/
theorem modelConstantsHaveTheirValues : Obligations.ModelConstantsHaveTheirValues :=
  ⟨waveZero_mos6581, waveZero_mos8580, voiceDc_mos6581, voiceDc_mos8580,
    mixerDcFilter_mos6581, mixerDcFilter_mos8580, mixerDcExt_mos6581, mixerDcExt_mos8580⟩

end Sys2Proof.Machine
end

section
/-! What one operation can do to the machine, said once: `exec_effect` reads the dispatch, and the two changes of a
voice's generators follow from it. -/

namespace Sys2Proof.Machine

open Sys2Proof.Claims

/-! ### What the parts of an operation leave alone -/

section frames

variable (p : Params) (s : State) (u v : VoiceId) (d : Byte)

@[simp] theorem State.wave_writeWave (f : WaveState → Byte → WaveState) :
    (s.writeWave p v d f).wave u = if u = v then f (s.wave v) d else s.wave u := by simp [State.writeWave]

@[simp] theorem State.env_writeWave (f : WaveState → Byte → WaveState) :
    (s.writeWave p v d f).env u = s.env u := by simp [State.writeWave]

@[simp] theorem State.wave_writeEnv (f : EnvState → Byte → EnvState) :
    (s.writeEnv p v d f).wave u = s.wave u := by simp [State.writeEnv]

@[simp] theorem State.env_writeEnv (f : EnvState → Byte → EnvState) :
    (s.writeEnv p v d f).env u = if u = v then f (s.env v) d else s.env u := by simp [State.writeEnv]

@[simp] theorem State.wave_writeCtrl :
    (s.writeCtrl p v d).wave u = if u = v then (s.wave v).writeCtrl p d else s.wave u := by
  obtain ⟨hwave, _⟩ := s.writeCtrl_spec p v d
  exact hwave u

@[simp] theorem State.env_writeCtrl :
    (s.writeCtrl p v d).env u = if u = v then (s.env v).writeGate (ctrlGate d) else s.env u := by
  obtain ⟨_, henv, _⟩ := s.writeCtrl_spec p v d
  exact henv u

@[simp] theorem State.wave_resetBlock : s.resetBlock.wave u = WaveState.reset := by
  match u with
  | 0 => rfl
  | 1 => rfl
  | 2 => rfl

@[simp] theorem State.env_resetBlock : s.resetBlock.env u = EnvState.reset := by
  match u with
  | 0 => rfl
  | 1 => rfl
  | 2 => rfl

@[simp] theorem State.wave_busAge (dt : Nat) : (s.busAge dt).wave u = s.wave u := by
  obtain ⟨_, h⟩ | ⟨_, h⟩ := s.busAge_cases dt <;> rw [h] <;> rfl

@[simp] theorem State.env_busAge (dt : Nat) : (s.busAge dt).env u = s.env u := by
  obtain ⟨_, h⟩ | ⟨_, h⟩ := s.busAge_cases dt <;> rw [h] <;> rfl

end frames

/-! ### The oscillators under a clock -/

/-- One thing the oscillator loop does to a generator: a clock (R80) or a hard sync (R96). -/
inductive WaveState.Tick (w : WaveState) : WaveState → Prop
  | clock (n : Nat) : w.Tick (w.clock n)
  | sync : w.Tick { w with acc := 0 }

/-- What any number of clocks and hard syncs make of a generator. -/
abbrev WaveState.Moved : WaveState → WaveState → Prop := Relation.ReflTransGen WaveState.Tick

theorem WaveState.Tick.sameRegisters {w x : WaveState} (h : w.Tick x) : w.SameRegisters x := by
  cases h with
  | clock n => exact w.sameRegisters_clock n
  | sync => exact ⟨rfl, rfl, rfl, rfl, rfl, rfl⟩

theorem WaveState.Moved.sameRegisters {w x : WaveState} (h : w.Moved x) : w.SameRegisters x := by
  induction h with
  | refl => exact .refl w
  | tail _ tick ih => exact ih.trans tick.sameRegisters

theorem State.moved_setWave (s : State) (v : VoiceId) {w : WaveState} (h : (s.wave v).Tick w) (u : VoiceId) :
    (s.wave u).Moved ((s.setWave v w).wave u) := by
  rw [State.wave_setWave]
  split
  · next e => rw [e]; exact .single h
  · exact .refl

theorem State.moved_waveClock (s : State) (v : VoiceId) (n : Nat) (u : VoiceId) :
    (s.wave u).Moved ((s.waveClock v n).wave u) := s.moved_setWave v (.clock n) u

theorem State.moved_synchronize (s : State) (v u : VoiceId) : (s.wave u).Moved ((s.synchronize v).wave u) := by
  obtain h | h := s.synchronize_cases v
  · rw [h]
  · rw [h]; exact s.moved_setWave _ .sync u

theorem State.moved_substep (s : State) (n : Nat) (u : VoiceId) : (s.wave u).Moved ((s.substep n).wave u) :=
  (((((s.moved_waveClock 0 n u).trans (State.moved_waveClock _ 1 n u)).trans (State.moved_waveClock _ 2 n u)).trans
    (State.moved_synchronize _ 0 u)).trans (State.moved_synchronize _ 1 u)).trans (State.moved_synchronize _ 2 u)

theorem State.moved_oscLoop_go (u : VoiceId) :
    ∀ (fuel dt : Nat) (s : State), (s.wave u).Moved ((State.oscLoop.go fuel dt s).wave u)
  | 0, _, _ => .refl
  | fuel + 1, dt, s => by
    unfold State.oscLoop.go
    split
    · exact .refl
    · exact (s.moved_substep _ u).trans (State.moved_oscLoop_go u fuel _ _)

/-! ### The voices and the bus under a clock of at least one cycle (R159 to R165) -/

section clock

variable (p : Params) (s : State) {dt : Nat} (hdt : 0 < dt)

include hdt

/-- An envelope sees its own clock only. -/
theorem State.env_clock (v : VoiceId) : (s.clock p dt).env v = (s.env v).clock dt := by
  obtain ⟨henv, _⟩ := (s.busAge dt).envClockAll_spec dt
  calc (s.clock p dt).env v
    _ = ((((s.busAge dt).envClockAll dt).oscLoop dt)).env v := by rw [s.clock_pos p hdt]; rfl
    _ = ((s.busAge dt).envClockAll dt).env v := (State.oscFrame_oscLoop _ dt).envs v
    _ = (s.env v).clock dt := by rw [henv, State.env_busAge]

/-- A generator sees clocks and hard syncs only. -/
theorem State.moved_clock (v : VoiceId) : (s.wave v).Moved ((s.clock p dt).wave v) := by
  obtain ⟨_, hwave, _⟩ := (s.busAge dt).envClockAll_spec dt
  have hloop : (s.clock p dt).wave v = (((s.busAge dt).envClockAll dt).oscLoop dt).wave v := by
    rw [s.clock_pos p hdt]; rfl
  have hstart : ((s.busAge dt).envClockAll dt).wave v = s.wave v := by rw [hwave, State.wave_busAge]
  rw [hloop, ← hstart]
  exact State.moved_oscLoop_go v dt dt _

/-- The bus sees its aging only. -/
theorem State.bus_clock :
    (s.clock p dt).busValue = (s.busAge dt).busValue ∧ (s.clock p dt).busTtl = (s.busAge dt).busTtl := by
  have hosc := ((s.busAge dt).envClockAll dt).oscFrame_oscLoop dt
  rw [s.clock_pos p hdt]
  exact ⟨hosc.busValue, hosc.busTtl⟩

end clock

/-! ### What an operation did -/

/-- The rules of the waveform registers but CTRL (R70 to R73). -/
inductive WaveRegister : (WaveState → Byte → WaveState) → Prop
  | freqLo : WaveRegister WaveState.writeFreqLo
  | freqHi : WaveRegister WaveState.writeFreqHi
  | pwLo : WaveRegister WaveState.writePwLo
  | pwHi : WaveRegister WaveState.writePwHi

/-- The rules of the envelope registers (R101, R102). -/
inductive EnvRegister : (EnvState → Byte → EnvState) → Prop
  | ad : EnvRegister EnvState.writeAd
  | sr : EnvRegister EnvState.writeSr

/-- The rules of the filter registers (R125 to R128). -/
inductive FilterRegister : (FilterState → Byte → FilterState) → Prop
  | fcLo : FilterRegister FilterState.writeFcLo
  | fcHi : FilterRegister FilterState.writeFcHi
  | resFilt : FilterRegister FilterState.writeResFilt
  | modeVol : FilterRegister FilterState.writeModeVol

/-- The states operation `i` can lead to from `s`, by the shared operation it runs. -/
inductive Effect (i : Instr) (s : State) : State → Prop
  | wave (v : VoiceId) (d : Byte) {f : WaveState → Byte → WaveState} (hf : WaveRegister f) :
      Effect i s (s.writeWave params v d f)
  | env (v : VoiceId) (d : Byte) {f : EnvState → Byte → EnvState} (hf : EnvRegister f) :
      Effect i s (s.writeEnv params v d f)
  | control (v : VoiceId) (d : Byte) (hi : i = ctrlOf v d) : Effect i s (s.writeCtrl params v d)
  | filter (d : Byte) {f : FilterState → Byte → FilterState} (hf : FilterRegister f) :
      Effect i s (s.writeFilter params d f)
  | latch (d : Byte) : Effect i s (s.busLatch params d)
  | read (r : Returned) : Effect i s (s.deliver r)
  | clock (dt : Nat) (hi : i = .clk dt) : Effect i s (s.clock params dt)
  | reset (hi : i = .rst) : Effect i s s.resetBlock

/-- Every operation goes on, and its effect is that of its row of the table. -/
theorem exec_next_effect : ∀ (i : Instr) (s : State), ∃ t, exec i s = .next t ∧ Effect i s t
  | .wrFreqLo1 d, _ => ⟨_, rfl, .wave 0 d .freqLo⟩
  | .wrFreqHi1 d, _ => ⟨_, rfl, .wave 0 d .freqHi⟩
  | .wrPwLo1 d, _ => ⟨_, rfl, .wave 0 d .pwLo⟩
  | .wrPwHi1 d, _ => ⟨_, rfl, .wave 0 d .pwHi⟩
  | .wrCtrl1 d, _ => ⟨_, rfl, .control 0 d rfl⟩
  | .wrAd1 d, _ => ⟨_, rfl, .env 0 d .ad⟩
  | .wrSr1 d, _ => ⟨_, rfl, .env 0 d .sr⟩
  | .wrFreqLo2 d, _ => ⟨_, rfl, .wave 1 d .freqLo⟩
  | .wrFreqHi2 d, _ => ⟨_, rfl, .wave 1 d .freqHi⟩
  | .wrPwLo2 d, _ => ⟨_, rfl, .wave 1 d .pwLo⟩
  | .wrPwHi2 d, _ => ⟨_, rfl, .wave 1 d .pwHi⟩
  | .wrCtrl2 d, _ => ⟨_, rfl, .control 1 d rfl⟩
  | .wrAd2 d, _ => ⟨_, rfl, .env 1 d .ad⟩
  | .wrSr2 d, _ => ⟨_, rfl, .env 1 d .sr⟩
  | .wrFreqLo3 d, _ => ⟨_, rfl, .wave 2 d .freqLo⟩
  | .wrFreqHi3 d, _ => ⟨_, rfl, .wave 2 d .freqHi⟩
  | .wrPwLo3 d, _ => ⟨_, rfl, .wave 2 d .pwLo⟩
  | .wrPwHi3 d, _ => ⟨_, rfl, .wave 2 d .pwHi⟩
  | .wrCtrl3 d, _ => ⟨_, rfl, .control 2 d rfl⟩
  | .wrAd3 d, _ => ⟨_, rfl, .env 2 d .ad⟩
  | .wrSr3 d, _ => ⟨_, rfl, .env 2 d .sr⟩
  | .wrFcLo d, _ => ⟨_, rfl, .filter d .fcLo⟩
  | .wrFcHi d, _ => ⟨_, rfl, .filter d .fcHi⟩
  | .wrResFilt d, _ => ⟨_, rfl, .filter d .resFilt⟩
  | .wrModeVol d, _ => ⟨_, rfl, .filter d .modeVol⟩
  | .wrLatch19 d, _ => ⟨_, rfl, .latch d⟩
  | .wrLatch1A1B _ d, _ => ⟨_, rfl, .latch d⟩
  | .wrLatch1C1F _ d, _ => ⟨_, rfl, .latch d⟩
  | .rdPotX, _ => ⟨_, rfl, .read _⟩
  | .rdPotY, _ => ⟨_, rfl, .read _⟩
  | .rdOsc3, _ => ⟨_, rfl, .read _⟩
  | .rdEnv3, _ => ⟨_, rfl, .read _⟩
  | .rdBus00to0F _, _ => ⟨_, rfl, .read _⟩
  | .rdBus10to17 _, _ => ⟨_, rfl, .read _⟩
  | .rdBus18, _ => ⟨_, rfl, .read _⟩
  | .rdBus1D, _ => ⟨_, rfl, .read _⟩
  | .rdBus1E1F _, _ => ⟨_, rfl, .read _⟩
  | .clk dt, _ => ⟨_, rfl, .clock dt rfl⟩
  | .rst, _ => ⟨_, rfl, .reset rfl⟩
  | .out, _ => ⟨_, rfl, .read _⟩

theorem exec_effect {i : Instr} {s t : State} (h : exec i s = .next t) : Effect i s t := by
  obtain ⟨u, hu, heff⟩ := exec_next_effect i s
  rw [h] at hu
  cases hu
  exact heff

/-! ### What an operation did to one voice -/

/-- The envelopes operation `i` can make of the envelope `e` of voice `v`. -/
inductive EnvChange (i : Instr) (v : VoiceId) (e : EnvState) : EnvState → Prop
  | keep : EnvChange i v e e
  | register (d : Byte) {f : EnvState → Byte → EnvState} (hf : EnvRegister f) : EnvChange i v e (f e d)
  | gate (d : Byte) (hi : i = ctrlOf v d) : EnvChange i v e (e.writeGate (ctrlGate d))
  | clock (n : Nat) : EnvChange i v e (e.clock n)
  | reset (hi : i = .rst) : EnvChange i v e EnvState.reset

/-- The generators operation `i` can make of the waveform generator `w` of voice `v`. -/
inductive WaveChange (i : Instr) (v : VoiceId) (w : WaveState) : WaveState → Prop
  | register (d : Byte) {f : WaveState → Byte → WaveState} (hf : WaveRegister f) : WaveChange i v w (f w d)
  | control (d : Byte) (hi : i = ctrlOf v d) : WaveChange i v w (w.writeCtrl params d)
  | moved {x : WaveState} (h : w.Moved x) : WaveChange i v w x
  | reset (hi : i = .rst) : WaveChange i v w WaveState.reset

theorem WaveChange.keep {i : Instr} {v : VoiceId} {w : WaveState} : WaveChange i v w w := .moved .refl

theorem Effect.envChange {i : Instr} {s t : State} (h : Effect i s t) (v : VoiceId) :
    EnvChange i v (s.env v) (t.env v) := by
  cases h with
  | wave u d hf => rw [State.env_writeWave]; exact .keep
  | env u d hf =>
    rw [State.env_writeEnv]
    split
    · next e => rw [e]; exact .register d hf
    · exact .keep
  | control u d hi =>
    rw [State.env_writeCtrl]
    split
    · next e => rw [e]; exact .gate d hi
    · exact .keep
  | filter d hf => exact .keep
  | latch d => exact .keep
  | read r => exact .keep
  | clock dt hi =>
    obtain rfl | hdt := Nat.eq_zero_or_pos dt
    · exact .keep
    · rw [State.env_clock _ _ hdt]; exact .clock dt
  | reset hi => rw [State.env_resetBlock]; exact .reset hi

theorem Effect.waveChange {i : Instr} {s t : State} (h : Effect i s t) (v : VoiceId) :
    WaveChange i v (s.wave v) (t.wave v) := by
  cases h with
  | wave u d hf =>
    rw [State.wave_writeWave]
    split
    · next e => rw [e]; exact .register d hf
    · exact .keep
  | env u d hf => rw [State.wave_writeEnv]; exact .keep
  | control u d hi =>
    rw [State.wave_writeCtrl]
    split
    · next e => rw [e]; exact .control d hi
    · exact .keep
  | filter d hf => exact .keep
  | latch d => exact .keep
  | read r => exact .keep
  | clock dt hi =>
    obtain rfl | hdt := Nat.eq_zero_or_pos dt
    · exact .keep
    · exact .moved (s.moved_clock params hdt v)
  | reset hi => rw [State.wave_resetBlock]; exact .reset hi

end Sys2Proof.Machine
end

section
/-! The invariant of 10_state.md (R15, R17 to R19, R25): it holds after reset and every step keeps it. -/

namespace Sys2Proof.Machine

/-! ### Waveform generators -/

theorem WaveState.Tick.legal {w x : WaveState} (h : w.Tick x) (hw : w.Legal) : x.Legal := by
  cases h with
  | clock n =>
    intro ht
    rw [WaveState.test_clock] at ht
    rw [WaveState.clock_of_test ht]
    exact hw ht
  | sync => exact fun _ => rfl

theorem WaveState.Moved.legal {w x : WaveState} (h : w.Moved x) (hw : w.Legal) : x.Legal := by
  induction h with
  | refl => exact hw
  | tail _ tick ih => exact tick.legal ih

theorem WaveState.legal_writeCtrl {w : WaveState} (p : Params) (d : Byte) (hw : w.Legal) : (w.writeCtrl p d).Legal := by
  unfold WaveState.writeCtrl
  obtain ⟨_, _, h⟩ | ⟨_, _, h⟩ | ⟨_, h⟩ := (w.writeCtrlFields d).writeTest_cases p (ctrlTest d)
  · rw [h]; exact fun _ => rfl
  · rw [h]; exact nofun
  · rw [h]; exact hw

theorem WaveRegister.legal {f : WaveState → Byte → WaveState} (hf : WaveRegister f) {w : WaveState} (d : Byte)
    (hw : w.Legal) : (f w d).Legal := by
  cases hf <;> exact hw

theorem WaveChange.legal {i : Instr} {v : VoiceId} {w x : WaveState} (h : WaveChange i v w x) (hw : w.Legal) :
    x.Legal := by
  cases h with
  | register d hf => exact hf.legal d hw
  | control d hi => exact WaveState.legal_writeCtrl params d hw
  | moved h => exact h.legal hw
  | reset hi => exact nofun

/-! ### Envelope generators -/

/-- Every rate period is below the range of the rate counter. -/
theorem rate_le (n : BitVec 4) : rate n ≤ 0x7FFF := by
  revert n
  decide

theorem EnvState.Legal.ratePeriod_le {e : EnvState} (h : e.Legal) : e.ratePeriod ≤ 0x7FFF := by
  obtain ⟨_, hp, _⟩ := h
  rw [hp]
  exact rate_le _

theorem EnvState.Legal.expPeriod_pos {e : EnvState} (h : e.Legal) : 0 < e.expPeriod := by
  obtain ⟨_, _, _, hlt, _⟩ := h
  omega

theorem EnvState.legal_reset : EnvState.reset.Legal := by decide

theorem EnvState.legal_writeGate {e : EnvState} (g : Bool) (h : e.Legal) : (e.writeGate g).Legal := by
  obtain ⟨hc, hp, hx, hlt, hz⟩ := h
  obtain ⟨_, _, hg⟩ | ⟨_, _, hg⟩ | ⟨_, hg⟩ := e.writeGate_cases g
  · rw [hg]; exact ⟨hc, rfl, hx, hlt, nofun⟩
  · rw [hg]; exact ⟨hc, rfl, hx, hlt, hz⟩
  · rw [hg]; exact ⟨hc, hp, hx, hlt, hz⟩

/-- A write of a rate field reloads the period of the phase that reads it (R101, R102), so the two stay equal. -/
theorem EnvRegister.legal {f : EnvState → Byte → EnvState} (hf : EnvRegister f) {e : EnvState} (d : Byte)
    (h : e.Legal) : (f e d).Legal := by
  obtain ⟨hc, hp, hx, hlt, hz⟩ := h
  cases hf with
  | ad =>
    refine ⟨hc, ?_, hx, hlt, hz⟩
    cases hs : e.state <;> simp_all [EnvState.writeAd, EnvState.rateField]
  | sr =>
    refine ⟨hc, ?_, hx, hlt, hz⟩
    cases hs : e.state <;> simp_all [EnvState.writeSr, EnvState.rateField]

theorem EnvState.rateCounter_advance (e : EnvState) (n : Nat) :
    (e.advance n).rateCounter
      = if e.rateCounter + n ≥ 0x8000 then e.rateCounter + n - 0x7FFF else e.rateCounter + n := rfl

/-- Short of two turns of the counter, an advance ends in its range: at most one wrap, below the rate period (R104). -/
theorem EnvState.legal_advance {e : EnvState} {n : Nat} (h : e.Legal)
    (hn : e.rateCounter + n < e.ratePeriod + 0x7FFF) : (e.advance n).Legal := by
  have hle := h.ratePeriod_le
  obtain ⟨_, hrest⟩ := h
  refine ⟨?_, hrest⟩
  rw [EnvState.rateCounter_advance]
  split <;> omega

/-- A step's first part: both counters restart (R105). -/
theorem EnvState.legal_restart {e : EnvState} (h : e.Legal) :
    ({ e with rateCounter := 0, expCounter := 0 } : EnvState).Legal := by
  have hpos := h.expPeriod_pos
  obtain ⟨_, hp, hx, _, hz⟩ := h
  exact ⟨Nat.zero_le _, hp, hx, hpos, hz⟩

/-- The action of an envelope that is not frozen (R106, R108, R109): it leaves ATTACK with the decay's period. -/
theorem EnvState.legal_action {e : EnvState} (h : e.Legal) (hz : e.holdZero = false) : e.action.Legal := by
  obtain ⟨hc, hp, hx, hlt, _⟩ := h
  have hfree : ∀ l : Byte, e.holdZero = true → l = 0 := by simp [hz]
  unfold EnvState.action
  split
  · split
    · exact ⟨hc, rfl, hx, hlt, hfree _⟩
    · exact ⟨hc, hp, hx, hlt, hfree _⟩
  · split
    · exact ⟨hc, hp, hx, hlt, hfree _⟩
    · exact ⟨hc, hp, hx, hlt, hfree _⟩
  · exact ⟨hc, hp, hx, hlt, hfree _⟩

theorem EnvState.counters_action (e : EnvState) :
    e.action.rateCounter = e.rateCounter ∧ e.action.expCounter = e.expCounter := by
  unfold EnvState.action
  split
  · split <;> exact ⟨rfl, rfl⟩
  · split <;> exact ⟨rfl, rfl⟩
  · exact ⟨rfl, rfl⟩

/-- What the level brings: a period of the list, the freeze with period 1 at level 0, or nothing (R107). -/
theorem EnvState.expPeriodUpdate_cases (e : EnvState) :
    (∃ k ∈ [1, 2, 4, 8, 16, 30], e.expPeriodUpdate = { e with expPeriod := k })
    ∨ (e.level = 0 ∧ e.expPeriodUpdate = { e with expPeriod := 1, holdZero := true })
    ∨ e.expPeriodUpdate = e := by
  unfold EnvState.expPeriodUpdate
  split
  · exact .inl ⟨1, by decide, rfl⟩
  · exact .inl ⟨2, by decide, rfl⟩
  · exact .inl ⟨4, by decide, rfl⟩
  · exact .inl ⟨8, by decide, rfl⟩
  · exact .inl ⟨16, by decide, rfl⟩
  · exact .inl ⟨30, by decide, rfl⟩
  · next hl => exact .inr (.inl ⟨BitVec.eq_of_toNat_eq hl, rfl⟩)
  · exact .inr (.inr rfl)

/-- A new period stays above the sub-counter only because that is 0, as it is after an action. -/
theorem EnvState.legal_expPeriodUpdate {e : EnvState} (h : e.Legal) (h0 : e.expCounter = 0) :
    e.expPeriodUpdate.Legal := by
  have ⟨hc, hp, _, _, hz⟩ := h
  obtain ⟨k, hk, hu⟩ | ⟨hl, hu⟩ | hu := e.expPeriodUpdate_cases
  · have hpos : ∀ k ∈ [1, 2, 4, 8, 16, 30], 0 < k := by decide
    rw [hu]
    exact ⟨hc, hp, hk, h0.trans_lt (hpos k hk), hz⟩
  · rw [hu]
    exact ⟨hc, hp, List.mem_cons_self, h0.trans_lt one_pos, fun _ => hl⟩
  · rw [hu]
    exact h

theorem EnvState.legal_step {e : EnvState} (h : e.Legal) : e.step.Legal := by
  obtain ⟨_, hne, hs⟩ | ⟨_, _, hs⟩ | ⟨_, hfree, hs⟩ := e.step_cases
  · obtain ⟨_, hp, hx, hlt, hz⟩ := h
    rw [hs]
    exact ⟨Nat.zero_le _, hp, hx, Nat.lt_of_le_of_ne hlt hne, hz⟩
  · rw [hs]; exact EnvState.legal_restart h
  · rw [hs]
    exact EnvState.legal_expPeriodUpdate (EnvState.legal_action (EnvState.legal_restart h) hfree)
      (EnvState.counters_action _).right

theorem EnvState.rateCounter_expPeriodUpdate (e : EnvState) : e.expPeriodUpdate.rateCounter = e.rateCounter := by
  obtain ⟨_, _, hu⟩ | ⟨_, hu⟩ | hu := e.expPeriodUpdate_cases
  · rw [hu]
  · rw [hu]
  · rw [hu]

/-- Every step restarts the rate counter (R105). -/
theorem EnvState.rateCounter_step (e : EnvState) : e.step.rateCounter = 0 := by
  obtain ⟨_, _, hs⟩ | ⟨_, _, hs⟩ | ⟨_, _, hs⟩ := e.step_cases
  · rw [hs]
  · rw [hs]
  · rw [hs, EnvState.rateCounter_expPeriodUpdate]
    exact (EnvState.counters_action _).left

theorem EnvState.rateCounter_add_cyclesToStep_le {e : EnvState} (h : e.Legal) :
    e.rateCounter + e.cyclesToStep ≤ e.ratePeriod + 0x7FFF := by
  obtain ⟨hc, _⟩ := h
  unfold EnvState.cyclesToStep
  split <;> omega

/-- The loop's invariant: the envelope is legal, and `span` cycles lead the counter to the rate period after at most
one wrap. -/
theorem EnvState.legal_clock_go : ∀ (fuel n span : Nat) (e : EnvState), e.Legal →
    e.rateCounter + span ≤ e.ratePeriod + 0x7FFF → (EnvState.clock.go fuel n span e).Legal
  | 0, _, _, _, h, _ => h
  | fuel + 1, n, span, e, h, hspan => by
    unfold EnvState.clock.go
    split
    · exact EnvState.legal_advance h (by omega)
    · have hrest : e.step.rateCounter + e.step.ratePeriod ≤ e.step.ratePeriod + 0x7FFF := by
        rw [EnvState.rateCounter_step]; omega
      exact EnvState.legal_clock_go fuel _ _ _ (EnvState.legal_step h) hrest

theorem EnvState.legal_clock {e : EnvState} (n : Nat) (h : e.Legal) : (e.clock n).Legal :=
  EnvState.legal_clock_go _ _ _ _ h (EnvState.rateCounter_add_cyclesToStep_le h)

theorem EnvChange.legal {i : Instr} {v : VoiceId} {e f : EnvState} (h : EnvChange i v e f) (he : e.Legal) :
    f.Legal := by
  cases h with
  | keep => exact he
  | register d hf => exact hf.legal d he
  | gate d hi => exact EnvState.legal_writeGate _ he
  | clock n => exact EnvState.legal_clock n he
  | reset hi => exact EnvState.legal_reset

/-! ### The bus latch -/

/-- The bus invariant reads the latch only. -/
theorem State.busLegal_congr {s t : State} (hv : t.busValue = s.busValue) (ht : t.busTtl = s.busTtl)
    (h : s.BusLegal) : t.BusLegal := by
  unfold State.BusLegal
  rw [hv, ht]
  exact h

/-- A latched byte has its full time to live (R151). -/
theorem State.busLegal_busLatch (s : State) (d : Byte) : (s.busLatch params d).BusLegal := by
  have httl : (s.busLatch params d).busTtl = 0x2000 := rfl
  unfold State.BusLegal
  rw [httl]
  exact ⟨by decide, by decide, fun h0 => absurd h0 (by decide)⟩

theorem State.busLegal_busAge {s : State} (dt : Nat) (h : s.BusLegal) : (s.busAge dt).BusLegal := by
  obtain ⟨_, hmax, _⟩ := h
  obtain ⟨_, hs⟩ | ⟨hpos, hs⟩ := s.busAge_cases dt
  · rw [hs]; exact ⟨le_rfl, Int.natCast_nonneg _, fun _ => rfl⟩
  · rw [hs]
    refine ⟨hpos.le, ?_, fun h0 => absurd h0 hpos.ne'⟩
    change s.busTtl - dt ≤ _
    omega

theorem Effect.busLegal {i : Instr} {s t : State} (h : Effect i s t) (hs : s.BusLegal) : t.BusLegal := by
  cases h with
  | wave v d hf => exact s.busLegal_busLatch d
  | env v d hf => exact s.busLegal_busLatch d
  | control v d hi => exact s.busLegal_busLatch d
  | filter d hf => exact s.busLegal_busLatch d
  | latch d => exact s.busLegal_busLatch d
  | read r => exact hs
  | clock dt hi =>
    obtain rfl | hdt := Nat.eq_zero_or_pos dt
    · exact hs
    · obtain ⟨hvalue, httl⟩ := s.bus_clock params hdt
      exact State.busLegal_congr hvalue httl (State.busLegal_busAge dt hs)
  | reset hi => exact ⟨le_rfl, Int.natCast_nonneg _, fun _ => rfl⟩

/-! ### The machine -/

theorem State.legal_iff (s : State) :
    s.Legal ↔ (∀ v, (s.wave v).Legal ∧ (s.env v).Legal) ∧ s.BusLegal := by
  constructor
  · rintro ⟨h0, h1, h2, hbus⟩
    refine ⟨fun v => ?_, hbus⟩
    match v with
    | 0 => exact h0
    | 1 => exact h1
    | 2 => exact h2
  · rintro ⟨hv, hbus⟩
    exact ⟨hv 0, hv 1, hv 2, hbus⟩

/-- Every operation keeps the invariant, part by part. -/
theorem exec_legal {i : Instr} {s t : State} (hs : s.Legal) (h : exec i s = .next t) : t.Legal := by
  have heff := exec_effect h
  rw [State.legal_iff] at hs ⊢
  obtain ⟨hvoices, hbus⟩ := hs
  refine ⟨fun v => ?_, heff.busLegal hbus⟩
  obtain ⟨hwave, henv⟩ := hvoices v
  exact ⟨(heff.waveChange v).legal hwave, (heff.envChange v).legal henv⟩

/-- Settles O55: taking the word changes no part the invariant reads, and the operation keeps it. -/
theorem stepKeepsTheStateLegal : Obligations.StepKeepsTheStateLegal := by
  intro s t hs h
  obtain ⟨_, rfl⟩ | ⟨w, rest, i, _, _, hexec⟩ := step_next_cases h
  · exact hs
  · exact exec_legal (s := { s with pending := rest }) hs hexec

/-- Settles O56: the generators and envelopes at their reset values, and a cleared bus latch, meet their ranges. -/
theorem resetStateIsLegal : Obligations.ResetStateIsLegal := by
  refine State.reset.legal_iff.mpr ⟨fun v => ?_, le_rfl, Int.natCast_nonneg _, fun _ => rfl⟩
  match v with
  | 0 | 1 | 2 => exact ⟨nofun, EnvState.legal_reset⟩

end Sys2Proof.Machine
end

section
/-! An envelope frozen at 0 (10_state.md R19) waits for a rising gate of its own voice (41_envelope.md R100). -/

namespace Sys2Proof.Machine

open Sys2Proof.Claims

/-- The envelope is frozen, at level 0. -/
def EnvState.Frozen (e : EnvState) : Prop := e.holdZero = true ∧ e.level = 0

theorem EnvState.Frozen.step {e : EnvState} (h : e.Frozen) : e.step.Frozen := by
  obtain ⟨hhold, hlevel⟩ := h
  obtain ⟨_, _, hs⟩ | ⟨_, _, hs⟩ | ⟨_, hfree, _⟩ := e.step_cases
  · rw [hs]; exact ⟨hhold, hlevel⟩
  · rw [hs]; exact ⟨hhold, hlevel⟩
  · rw [hhold] at hfree; cases hfree

theorem EnvState.Frozen.clock {e : EnvState} (h : e.Frozen) (n : Nat) : (e.clock n).Frozen :=
  EnvState.clock_invariant (P := EnvState.Frozen) (fun _ _ hf => hf) (fun _ hf => hf.step) e n h

theorem EnvRegister.frozen {f : EnvState → Byte → EnvState} (hf : EnvRegister f) {e : EnvState} (d : Byte)
    (h : e.Frozen) : (f e d).Frozen := by
  cases hf <;> exact h

/-- A frozen envelope after a gate write: still frozen, or started by the rising gate (R100). -/
theorem EnvState.Frozen.writeGate {e : EnvState} (h : e.Frozen) (g : Bool) :
    (e.writeGate g).Frozen
    ∨ (g = true ∧ e.gate = false ∧ (e.writeGate g).holdZero = false ∧ (e.writeGate g).level = 0
        ∧ (e.writeGate g).state = .attack) := by
  obtain ⟨hold, hg, he⟩ | ⟨_, _, he⟩ | ⟨_, he⟩ := e.writeGate_cases g
  · rw [he]; exact .inr ⟨hg, hold, rfl, h.right, rfl⟩
  · rw [he]; exact .inl h
  · rw [he]; exact .inl h

/-- Settles O43: of all an operation can do to an envelope, only the gate write unfreezes, and only where it rises. -/
theorem frozenEnvelopeWaitsForARisingGate : Obligations.FrozenEnvelopeWaitsForARisingGate := by
  intro i s t v hhold hlevel hexec
  have hfrozen : (s.env v).Frozen := ⟨hhold, hlevel⟩
  have hchange := (exec_effect hexec).envChange v
  generalize t.env v = e at hchange ⊢
  cases hchange with
  | keep => exact .inl hfrozen
  | register d hf => exact .inl (hf.frozen d hfrozen)
  | gate d hi => exact (hfrozen.writeGate (ctrlGate d)).imp_right fun hrise => ⟨d, hi, hrise⟩
  | clock n => exact .inl (hfrozen.clock n)
  | reset hi => exact .inl ⟨rfl, rfl⟩

end Sys2Proof.Machine
end

section
/-! The control bits of a voice (10_state.md R26) change by its own CTRL writes and by RESET only. -/

namespace Sys2Proof.Machine

open Sys2Proof.Claims

theorem EnvRegister.gate {f : EnvState → Byte → EnvState} (hf : EnvRegister f) (e : EnvState) (d : Byte) :
    (f e d).gate = e.gate := by
  cases hf <;> rfl

/-- Any other change of an envelope keeps its gate bit. -/
theorem EnvChange.gate_eq {i : Instr} {v : VoiceId} {e f : EnvState} (h : EnvChange i v e f) (hrst : i ≠ .rst)
    (hctrl : ∀ d, i ≠ ctrlOf v d) : f.gate = e.gate := by
  cases h with
  | keep => rfl
  | register d hf => exact hf.gate e d
  | gate d hi => exact absurd hi (hctrl d)
  | clock n =>
    obtain ⟨_, _, _, _, hgate⟩ := e.sameRegisters_clock n
    exact hgate
  | reset hi => exact absurd hi hrst

/-- The bits of a CTRL byte that a waveform generator holds are the same in both. -/
def WaveState.SameControl (w x : WaveState) : Prop :=
  x.sync = w.sync ∧ x.ring = w.ring ∧ x.test = w.test ∧ x.waveform = w.waveform

theorem WaveState.SameRegisters.sameControl {w x : WaveState} (h : w.SameRegisters x) : w.SameControl x := by
  obtain ⟨_, _, hwaveform, htest, hring, hsync⟩ := h
  exact ⟨hsync, hring, htest, hwaveform⟩

theorem WaveRegister.sameControl {f : WaveState → Byte → WaveState} (hf : WaveRegister f) (w : WaveState) (d : Byte) :
    w.SameControl (f w d) := by
  cases hf <;> exact ⟨rfl, rfl, rfl, rfl⟩

/-- Any other change of a waveform generator keeps its control bits. -/
theorem WaveChange.sameControl {i : Instr} {v : VoiceId} {w x : WaveState} (h : WaveChange i v w x) (hrst : i ≠ .rst)
    (hctrl : ∀ d, i ≠ ctrlOf v d) : w.SameControl x := by
  cases h with
  | register d hf => exact hf.sameControl w d
  | control d hi => exact absurd hi (hctrl d)
  | moved h => exact h.sameRegisters.sameControl
  | reset hi => exact absurd hi hrst

/-- Settles O58: the envelope keeps the gate and the waveform generator the other four fields. -/
theorem controlBitsChangeOnlyByControlWrites : Obligations.ControlBitsChangeOnlyByControlWrites := by
  intro i s t v hexec hrst hctrl
  have heff := exec_effect hexec
  exact ⟨(heff.envChange v).gate_eq hrst hctrl, (heff.waveChange v).sameControl hrst hctrl⟩

end Sys2Proof.Machine
end

section
/-! One step on a pending command word (R47, R48): the word is taken, and what it decodes to is run. -/

namespace Sys2Proof.Machine

/-- Taking a word of the host's stream leaves the words behind it. -/
theorem State.take_of_pending {s : State} {w : CommandWord} {rest : List CommandWord} (h : s.pending = w :: rest) :
    s.take = some (w, { s with pending := rest }) := by
  rw [State.take, h]

/-- Settles O5: the word is taken, it decodes, and its instruction is what the step answers with. -/
theorem stepRunsTheDecodedInstruction : Obligations.StepRunsTheDecodedInstruction := by
  intro s w rest i hpending hdecode
  have htake : s.take = some (w, { s with pending := rest }) := State.take_of_pending hpending
  simp only [step, htake, hdecode]

end Sys2Proof.Machine
end

section
/-! Command words and their instructions (30_encoding.md R54 to R60): which words decode, each as the word that
`encode` gives its instruction. -/

namespace Sys2Proof

/-! ### The fields of a word on naturals (R54) -/

section fields

variable (w : CommandWord)

theorem CommandWord.toNat_format : (w.extractLsb' 14 2).toNat = w.toNat / 2 ^ 14 := by
  have := w.isLt
  rw [BitVec.extractLsb'_toNat, Nat.shiftRight_eq_div_pow]
  omega

theorem CommandWord.bit13_eq : w.getLsbD 13 = decide (w.toNat / 2 ^ 13 % 2 = 1) :=
  Nat.testBit_eq_decide_div_mod_eq

theorem CommandWord.toNat_offset : (w.extractLsb' 8 5).toNat = w.toNat / 2 ^ 8 % 2 ^ 5 := by
  rw [BitVec.extractLsb'_toNat, Nat.shiftRight_eq_div_pow]

theorem CommandWord.toNat_lowByte : (w.extractLsb' 0 8).toNat = w.toNat % 2 ^ 8 := by
  rw [BitVec.extractLsb'_toNat, Nat.shiftRight_zero]

theorem CommandWord.toNat_argument : (w.extractLsb' 0 14).toNat = w.toNat % 2 ^ 14 := by
  rw [BitVec.extractLsb'_toNat, Nat.shiftRight_zero]

end fields

/-! ### The four word formats on naturals -/

/-- A concatenation of bit strings, read as a number. -/
theorem toNat_append_eq {m n : Nat} (hi : BitVec m) (lo : BitVec n) :
    (hi ++ lo).toNat = hi.toNat * 2 ^ n + lo.toNat := by
  rw [BitVec.toNat_append, ← Nat.shiftLeft_add_eq_or_of_lt lo.isLt, Nat.shiftLeft_eq]

theorem toNat_readWord (off : Offset) : (readWord off).toNat = off.toNat * 256 :=
  calc (readWord off).toNat
    _ = (0b000#3 ++ off).toNat * 2 ^ 8 + (0x00#8).toNat := toNat_append_eq _ _
    _ = (0 * 2 ^ 5 + off.toNat) * 2 ^ 8 + 0 := by rw [toNat_append_eq]; rfl
    _ = off.toNat * 256 := by omega

theorem toNat_writeWord (off : Offset) (d : Byte) :
    (writeWord off d).toNat = 0x4000 + off.toNat * 256 + d.toNat :=
  calc (writeWord off d).toNat
    _ = (0b010#3 ++ off).toNat * 2 ^ 8 + d.toNat := toNat_append_eq _ _
    _ = (2 * 2 ^ 5 + off.toNat) * 2 ^ 8 + d.toNat := by rw [toNat_append_eq]; rfl
    _ = 0x4000 + off.toNat * 256 + d.toNat := by omega

theorem toNat_clockWord (dt : BitVec 14) : (clockWord dt).toNat = 0x8000 + dt.toNat := toNat_append_eq _ _

theorem toNat_sysWord (func : BitVec 14) : (sysWord func).toNat = 0xC000 + func.toNat := toNat_append_eq _ _

/-! ### The words that decode -/

/-- `w` is a word to which R55 to R58 give an operation, and `i` is that operation. -/
inductive WordOf (w : CommandWord) : Instr → Prop
  | read (off : Offset) (hw : w = readWord off) : WordOf w (decodeRead off)
  | write (off : Offset) (d : Byte) (hw : w = writeWord off d) : WordOf w (decodeWrite off d)
  | clock (dt : BitVec 14) (hw : w = clockWord dt) : WordOf w (.clk dt.toNat)
  | reset (hw : w = sysWord 0) : WordOf w .rst
  | output (hw : w = sysWord 1) : WordOf w .out

theorem decode_readWord (off : Offset) : decode (readWord off) = .ok (decodeRead off) := by
  have hword := toNat_readWord off
  have hlt := off.isLt
  have hformat : ((readWord off).extractLsb' 14 2).toNat = 0 := by rw [CommandWord.toNat_format]; omega
  have hbit : (readWord off).getLsbD 13 = false := by rw [CommandWord.bit13_eq, decide_eq_false_iff_not]; omega
  have hoff : (readWord off).extractLsb' 8 5 = off :=
    BitVec.eq_of_toNat_eq (by rw [CommandWord.toNat_offset]; omega)
  have hlow : (readWord off).extractLsb' 0 8 = 0 :=
    BitVec.eq_of_toNat_eq (by rw [CommandWord.toNat_lowByte]; change _ = 0; omega)
  simp only [decode, hformat, hbit, hoff, hlow, Bool.false_eq_true, if_false, if_true]

theorem decode_writeWord (off : Offset) (d : Byte) : decode (writeWord off d) = .ok (decodeWrite off d) := by
  have hword := toNat_writeWord off d
  have hofflt := off.isLt
  have hdlt := d.isLt
  have hformat : ((writeWord off d).extractLsb' 14 2).toNat = 1 := by rw [CommandWord.toNat_format]; omega
  have hbit : (writeWord off d).getLsbD 13 = false := by rw [CommandWord.bit13_eq, decide_eq_false_iff_not]; omega
  have hoff : (writeWord off d).extractLsb' 8 5 = off :=
    BitVec.eq_of_toNat_eq (by rw [CommandWord.toNat_offset]; omega)
  have hlow : (writeWord off d).extractLsb' 0 8 = d :=
    BitVec.eq_of_toNat_eq (by rw [CommandWord.toNat_lowByte]; omega)
  simp only [decode, hformat, hbit, hoff, hlow, Bool.false_eq_true, if_false]

theorem decode_clockWord (dt : BitVec 14) : decode (clockWord dt) = .ok (.clk dt.toNat) := by
  have hword := toNat_clockWord dt
  have hlt := dt.isLt
  have hformat : ((clockWord dt).extractLsb' 14 2).toNat = 2 := by rw [CommandWord.toNat_format]; omega
  have harg : ((clockWord dt).extractLsb' 0 14).toNat = dt.toNat := by rw [CommandWord.toNat_argument]; omega
  simp only [decode, hformat, harg]

/-- The words of R55 to R58 decode. -/
theorem WordOf.decode_eq {w : CommandWord} {i : Instr} (h : WordOf w i) : decode w = .ok i := by
  cases h with
  | read off hw => rw [hw]; exact decode_readWord off
  | write off d hw => rw [hw]; exact decode_writeWord off d
  | clock dt hw => rw [hw]; exact decode_clockWord dt
  | reset hw => rw [hw]; rfl
  | output hw => rw [hw]; rfl

/-! ### A word is its fields -/

section rebuild

variable {w : CommandWord}

theorem eq_readWord (hformat : (w.extractLsb' 14 2).toNat = 0) (hbit : w.getLsbD 13 = false)
    (hlow : (w.extractLsb' 0 8).toNat = 0) : w = readWord (w.extractLsb' 8 5) := by
  rw [w.bit13_eq, decide_eq_false_iff_not] at hbit
  rw [w.toNat_format] at hformat
  rw [w.toNat_lowByte] at hlow
  refine BitVec.eq_of_toNat_eq ?_
  rw [toNat_readWord, w.toNat_offset]
  omega

theorem eq_writeWord (hformat : (w.extractLsb' 14 2).toNat = 1) (hbit : w.getLsbD 13 = false) :
    w = writeWord (w.extractLsb' 8 5) (w.extractLsb' 0 8) := by
  rw [w.bit13_eq, decide_eq_false_iff_not] at hbit
  rw [w.toNat_format] at hformat
  refine BitVec.eq_of_toNat_eq ?_
  rw [toNat_writeWord, w.toNat_offset, w.toNat_lowByte]
  omega

theorem eq_clockWord (hformat : (w.extractLsb' 14 2).toNat = 2) : w = clockWord (w.extractLsb' 0 14) := by
  rw [w.toNat_format] at hformat
  refine BitVec.eq_of_toNat_eq ?_
  rw [toNat_clockWord, w.toNat_argument]
  omega

theorem eq_sysWord {func : BitVec 14} (hformat : (w.extractLsb' 14 2).toNat = 3)
    (hfunc : (w.extractLsb' 0 14).toNat = func.toNat) : w = sysWord func := by
  rw [w.toNat_format] at hformat
  rw [w.toNat_argument] at hfunc
  refine BitVec.eq_of_toNat_eq ?_
  rw [toNat_sysWord]
  omega

end rebuild

/-- No other word decodes (R59). -/
theorem WordOf.of_decode_eq {w : CommandWord} {i : Instr} (h : decode w = .ok i) : WordOf w i := by
  have hlt := (w.extractLsb' 14 2).isLt
  unfold decode at h
  dsimp only at h
  split at h
  · next hread =>
    split at h
    · cases h
    next hbit =>
    split at h
    · next hlow =>
      cases h
      exact .read _ (eq_readWord hread (eq_false_of_ne_true hbit) (congrArg BitVec.toNat hlow))
    · cases h
  · next hwrite =>
    split at h
    · cases h
    next hbit =>
    cases h
    exact .write _ _ (eq_writeWord hwrite (eq_false_of_ne_true hbit))
  · next hclock =>
    cases h
    exact .clock _ (eq_clockWord hclock)
  · next hread hwrite hclock =>
    simp only [imp_false] at hread hwrite hclock
    have hsys : (w.extractLsb' 14 2).toNat = 3 := by omega
    split at h
    · next hfunc =>
      cases h
      exact .reset (eq_sysWord hsys hfunc)
    · next hfunc =>
      cases h
      exact .output (eq_sysWord hsys hfunc)
    · cases h

theorem decode_eq_ok_iff {w : CommandWord} {i : Instr} : decode w = .ok i ↔ WordOf w i :=
  ⟨WordOf.of_decode_eq, WordOf.decode_eq⟩

end Sys2Proof
end

section
/-! The rows of the register window (R55, R56): what the instruction of each offset encodes to. -/

namespace Sys2Proof

/-- The window has 32 offsets (20_memory.md R40): what holds of each of them by number holds of every one. -/
theorem forall_offset {P : Offset → Prop} (h : ∀ n < 32, P (BitVec.ofNat 5 n)) (off : Offset) : P off := by
  have hoff := h off.toNat off.isLt
  rwa [BitVec.ofNat_toNat, BitVec.setWidth_eq] at hoff

theorem encode_decodeWrite (off : Offset) (d : Byte) : encode (decodeWrite off d) = writeWord off d := by
  induction off using forall_offset with
  | h n hn => interval_cases n <;> rfl

theorem wellFormed_decodeWrite (off : Offset) (d : Byte) : (decodeWrite off d).wellFormed = true := by
  induction off using forall_offset with
  | h n hn => interval_cases n <;> rfl

theorem encode_decodeRead (off : Offset) : encode (decodeRead off) = readWord off := by
  induction off using forall_offset with
  | h n hn => interval_cases n <;> rfl

theorem wellFormed_decodeRead (off : Offset) : (decodeRead off).wellFormed = true := by
  induction off using forall_offset with
  | h n hn => interval_cases n <;> rfl

/-! ### The rows that hold several offsets -/

theorem decodeWrite_latch1A1B {off : Offset} (h : 0x1A ≤ off.toNat ∧ off.toNat ≤ 0x1B) (d : Byte) :
    decodeWrite off d = .wrLatch1A1B off d := by
  obtain h1A | h1B : off.toNat = 0x1A ∨ off.toNat = 0x1B := by omega
  · simp only [decodeWrite, h1A]
  · simp only [decodeWrite, h1B]

theorem decodeWrite_latch1C1F {off : Offset} (h : 0x1C ≤ off.toNat) (d : Byte) :
    decodeWrite off d = .wrLatch1C1F off d := by
  unfold decodeWrite
  split
  case h_29 => rfl
  all_goals omega

theorem decodeRead_bus00to0F {off : Offset} (h : off.toNat ≤ 0x0F) : decodeRead off = .rdBus00to0F off := by
  unfold decodeRead
  split
  case h_9 => exact if_pos (by omega)
  all_goals omega

theorem decodeRead_bus10to17 {off : Offset} (h : 0x10 ≤ off.toNat ∧ off.toNat ≤ 0x17) :
    decodeRead off = .rdBus10to17 off := by
  unfold decodeRead
  split
  case h_9 => exact if_neg (by omega)
  all_goals omega

theorem decodeRead_bus1E1F {off : Offset} (h : 0x1E ≤ off.toNat) : decodeRead off = .rdBus1E1F off := by
  have hlt := off.isLt
  obtain h1E | h1F : off.toNat = 0x1E ∨ off.toNat = 0x1F := by omega
  · simp only [decodeRead, h1E]
  · simp only [decodeRead, h1F]

end Sys2Proof
end

section
/-! `encode` and `decode` are inverse to each other between the well-formed instructions and the words that decode. -/

namespace Sys2Proof

theorem WordOf.of_decodeWrite {off : Offset} {d : Byte} {i : Instr} (h : decodeWrite off d = i) :
    WordOf (writeWord off d) i := h ▸ .write off d rfl

theorem WordOf.of_decodeRead {off : Offset} {i : Instr} (h : decodeRead off = i) : WordOf (readWord off) i :=
  h ▸ .read off rfl

/-- Row by row of the table: the word of a well-formed instruction is the word R55 to R58 give it. -/
theorem wordOf_encode : ∀ {i : Instr}, i.wellFormed = true → WordOf (encode i) i
  | .wrFreqLo1 d, _ => .write 0x00 d rfl
  | .wrFreqHi1 d, _ => .write 0x01 d rfl
  | .wrPwLo1 d, _ => .write 0x02 d rfl
  | .wrPwHi1 d, _ => .write 0x03 d rfl
  | .wrCtrl1 d, _ => .write 0x04 d rfl
  | .wrAd1 d, _ => .write 0x05 d rfl
  | .wrSr1 d, _ => .write 0x06 d rfl
  | .wrFreqLo2 d, _ => .write 0x07 d rfl
  | .wrFreqHi2 d, _ => .write 0x08 d rfl
  | .wrPwLo2 d, _ => .write 0x09 d rfl
  | .wrPwHi2 d, _ => .write 0x0A d rfl
  | .wrCtrl2 d, _ => .write 0x0B d rfl
  | .wrAd2 d, _ => .write 0x0C d rfl
  | .wrSr2 d, _ => .write 0x0D d rfl
  | .wrFreqLo3 d, _ => .write 0x0E d rfl
  | .wrFreqHi3 d, _ => .write 0x0F d rfl
  | .wrPwLo3 d, _ => .write 0x10 d rfl
  | .wrPwHi3 d, _ => .write 0x11 d rfl
  | .wrCtrl3 d, _ => .write 0x12 d rfl
  | .wrAd3 d, _ => .write 0x13 d rfl
  | .wrSr3 d, _ => .write 0x14 d rfl
  | .wrFcLo d, _ => .write 0x15 d rfl
  | .wrFcHi d, _ => .write 0x16 d rfl
  | .wrResFilt d, _ => .write 0x17 d rfl
  | .wrModeVol d, _ => .write 0x18 d rfl
  | .wrLatch19 d, _ => .write 0x19 d rfl
  | .wrLatch1A1B off d, h => .of_decodeWrite (decodeWrite_latch1A1B (of_decide_eq_true h) d)
  | .wrLatch1C1F off d, h => .of_decodeWrite (decodeWrite_latch1C1F (of_decide_eq_true h) d)
  | .rdPotX, _ => .read 0x19 rfl
  | .rdPotY, _ => .read 0x1A rfl
  | .rdOsc3, _ => .read 0x1B rfl
  | .rdEnv3, _ => .read 0x1C rfl
  | .rdBus00to0F off, h => .of_decodeRead (decodeRead_bus00to0F (of_decide_eq_true h))
  | .rdBus10to17 off, h => .of_decodeRead (decodeRead_bus10to17 (of_decide_eq_true h))
  | .rdBus18, _ => .read 0x18 rfl
  | .rdBus1D, _ => .read 0x1D rfl
  | .rdBus1E1F off, h => .of_decodeRead (decodeRead_bus1E1F (of_decide_eq_true h))
  | .clk dt, h => by
    have hdt : (BitVec.ofNat 14 dt).toNat = dt :=
      Nat.mod_eq_of_lt (Nat.lt_succ_of_le (of_decide_eq_true h))
    have hword := WordOf.clock (BitVec.ofNat 14 dt) rfl
    rwa [hdt] at hword
  | .rst, _ => .reset rfl
  | .out, _ => .output rfl

/-- Settles O2: a well-formed instruction's word is one that decodes to it. -/
theorem decodeOfEncodeIsTheInstruction : Obligations.DecodeOfEncodeIsTheInstruction :=
  fun _ hwf => decode_eq_ok_iff.mpr (wordOf_encode hwf)

/-- Settles O3: the words that decode are those of R55 to R58, and each is the encoding of its instruction. -/
theorem decodedWordIsItsInstructionsWord : Obligations.DecodedWordIsItsInstructionsWord := by
  intro w i hdecode
  cases decode_eq_ok_iff.mp hdecode with
  | read off hw => exact ⟨hw ▸ encode_decodeRead off, wellFormed_decodeRead off⟩
  | write off d hw => exact ⟨hw ▸ encode_decodeWrite off d, wellFormed_decodeWrite off d⟩
  | clock dt hw =>
    have hspan : dt.toNat ≤ 16383 := Nat.le_of_lt_succ dt.isLt
    exact ⟨by rw [hw, encode, BitVec.ofNat_toNat, BitVec.setWidth_eq], decide_eq_true hspan⟩
  | reset hw => exact ⟨hw.symm, rfl⟩
  | output hw => exact ⟨hw.symm, rfl⟩

/-- Settles O1: each word is one of R55 to R58 with its operands written out, or has a reserved bit pattern (R59). -/
theorem workedExampleWordsDecode : Obligations.WorkedExampleWordsDecode :=
  ⟨decode_writeWord 0x04 0x21, decode_readWord 0x1C, decode_clockWord 44,
    WordOf.decode_eq (.reset rfl), WordOf.decode_eq (.output rfl), decode_writeWord 0x18 0xFF,
    decode_writeWord 0x1F 0x12, decode_readWord 0x1F, decode_clockWord 16383, rfl, rfl, rfl, rfl⟩

end Sys2Proof
end

section
/-! The instructions of the window's words run `RegWrite` and `RegRead` (45_sid_top.md R150 to R156). -/

namespace Sys2Proof.Machine

open Sys2Proof.Claims

/-- The dispatch by offset of R150 names the voice and the rule that the offset's own instruction runs. -/
theorem exec_decodeWrite (off : Offset) (d : Byte) (s : State) :
    exec (decodeWrite off d) s = .next (s.regWrite params off d) := by
  induction off using forall_offset with
  | h n hn => interval_cases n <;> rfl

theorem exec_decodeRead (off : Offset) (s : State) :
    exec (decodeRead off) s = .next (returnedByte s (s.regRead params off)) := by
  induction off using forall_offset with
  | h n hn => interval_cases n <;> rfl

/-- Settles O7: the two word formats decode to the instructions of their offset, which run the window's dispatch. -/
theorem windowWordsAccessTheWindow : Obligations.WindowWordsAccessTheWindow := by
  refine ⟨fun off d s => ⟨decodeWrite off d, ?_, exec_decodeWrite off d s⟩,
    fun off s => ⟨decodeRead off, ?_, exec_decodeRead off s⟩⟩
  · rw [← toNat_writeWord, BitVec.ofNat_toNat, BitVec.setWidth_eq]
    exact decode_writeWord off d
  · rw [← toNat_readWord, BitVec.ofNat_toNat, BitVec.setWidth_eq]
    exact decode_readWord off

end Sys2Proof.Machine
end

section
/-! A register wider than a byte after its two byte writes (30_encoding.md R51): the low write, then the high write. -/

namespace Sys2Proof.Machine

/-! ### The byte rules of a wide register -/

/-- Into a register `x` the low field enters beside the mask `m`, then the high field above what the mask `k` keeps.
The old register is gone, and the two fields add up. -/
theorem toNat_assembled {n b : Nat} {x hi lo m k : BitVec n} (hdisjoint : m &&& k = 0) (hkeep : lo &&& k = lo)
    (hlo : lo.toNat < 2 ^ b) (hhi : hi.toNat * 2 ^ b < 2 ^ n) :
    (hi <<< b ||| ((x &&& m) ||| lo) &&& k).toNat = hi.toNat * 2 ^ b + lo.toNat := by
  have hlow : ((x &&& m) ||| lo) &&& k = lo :=
    calc ((x &&& m) ||| lo) &&& k
      _ = (x &&& (m &&& k)) ||| (lo &&& k) := by rw [BitVec.and_or_distrib_right, BitVec.and_assoc]
      _ = lo := by simp [hdisjoint, hkeep]
  have hhigh : (hi <<< b).toNat = hi.toNat <<< b := by
    rw [BitVec.toNat_shiftLeft, Nat.mod_eq_of_lt (by rwa [Nat.shiftLeft_eq])]
  rw [hlow, BitVec.toNat_or, hhigh, ← Nat.shiftLeft_add_eq_or_of_lt hlo, Nat.shiftLeft_eq]

/-- A widened byte lies under the widened mask of its own bits. -/
theorem setWidth_and_mask {n : Nat} (d m : Byte) :
    (d &&& m).setWidth n &&& m.setWidth n = (d &&& m).setWidth n := by
  rw [← BitVec.setWidth_and, BitVec.and_assoc, BitVec.and_self]

theorem setWidth_and_byteMask {n : Nat} (d : Byte) : d.setWidth n &&& (0xFF : Byte).setWidth n = d.setWidth n := by
  rw [← BitVec.setWidth_and]
  exact congrArg _ BitVec.and_allOnes

/-- The low `b` bits of a byte, in a register of at least 8 bits. -/
theorem toNat_setWidth_lowBits {n b : Nat} (h : 8 ≤ n) (d : Byte) {m : Byte} (hm : m.toNat = 2 ^ b - 1) :
    ((d &&& m).setWidth n).toNat = d.toNat % 2 ^ b := by
  rw [BitVec.toNat_setWidth_of_le h, BitVec.toNat_and, hm, Nat.and_two_pow_sub_one_eq_mod]

theorem toNat_withFreqHi_withFreqLo (freq : BitVec 16) (lo hi : Byte) :
    (withFreqHi (withFreqLo freq lo) hi).toNat = hi.toNat * 256 + lo.toNat := by
  have hlo : (lo.setWidth 16).toNat = lo.toNat := BitVec.toNat_setWidth_of_le (by decide)
  have hhi : (hi.setWidth 16).toNat = hi.toNat := BitVec.toNat_setWidth_of_le (by decide)
  calc (withFreqHi (withFreqLo freq lo) hi).toNat
    _ = (hi.setWidth 16).toNat * 2 ^ 8 + (lo.setWidth 16).toNat :=
      toNat_assembled (by decide) (setWidth_and_byteMask lo) (by omega) (by omega)
    _ = hi.toNat * 256 + lo.toNat := by rw [hhi, hlo]; rfl

theorem toNat_withPwHi_withPwLo (pw : BitVec 12) (lo hi : Byte) :
    (withPwHi (withPwLo pw lo) hi).toNat = hi.toNat % 16 * 256 + lo.toNat := by
  have hlo : (lo.setWidth 12).toNat = lo.toNat := BitVec.toNat_setWidth_of_le (by decide)
  have hhi : ((hi &&& 0x0F).setWidth 12).toNat = hi.toNat % 2 ^ 4 := toNat_setWidth_lowBits (by decide) hi rfl
  calc (withPwHi (withPwLo pw lo) hi).toNat
    _ = ((hi &&& 0x0F).setWidth 12).toNat * 2 ^ 8 + (lo.setWidth 12).toNat :=
      toNat_assembled (by decide) (setWidth_and_byteMask lo) (by omega) (by omega)
    _ = hi.toNat % 16 * 256 + lo.toNat := by rw [hhi, hlo]; rfl

theorem toNat_withFcHi_withFcLo (fc : BitVec 11) (lo hi : Byte) :
    (withFcHi (withFcLo fc lo) hi).toNat = hi.toNat * 8 + lo.toNat % 8 := by
  have hlo : ((lo &&& 0x07).setWidth 11).toNat = lo.toNat % 2 ^ 3 := toNat_setWidth_lowBits (by decide) lo rfl
  have hhi : (hi.setWidth 11).toNat = hi.toNat := BitVec.toNat_setWidth_of_le (by decide)
  calc (withFcHi (withFcLo fc lo) hi).toNat
    _ = (hi.setWidth 11).toNat * 2 ^ 3 + ((lo &&& 0x07).setWidth 11).toNat :=
      toNat_assembled (by decide) (setWidth_and_mask lo 0x07) (by omega) (by omega)
    _ = hi.toNat * 8 + lo.toNat % 8 := by rw [hhi, hlo]; rfl

/-! ### The registers after a pair of writes -/

section pairs

variable (p : Params) (s : State) (v : VoiceId) (lo hi : Byte)

theorem State.freq_of_two_writes :
    ((((s.writeWave p v lo .writeFreqLo).writeWave p v hi .writeFreqHi).wave v).freq).toNat
      = hi.toNat * 256 + lo.toNat := by
  rw [State.wave_writeWave, if_pos rfl, State.wave_writeWave, if_pos rfl]
  exact toNat_withFreqHi_withFreqLo _ lo hi

theorem State.pw_of_two_writes :
    ((((s.writeWave p v lo .writePwLo).writeWave p v hi .writePwHi).wave v).pw).toNat
      = hi.toNat % 16 * 256 + lo.toNat := by
  rw [State.wave_writeWave, if_pos rfl, State.wave_writeWave, if_pos rfl]
  exact toNat_withPwHi_withPwLo _ lo hi

theorem State.fc_of_two_writes :
    ((s.writeFilter p lo .writeFcLo).writeFilter p hi .writeFcHi).filter.fc.toNat
      = hi.toNat * 8 + lo.toNat % 8 := by
  simp only [State.writeFilter_spec]
  exact toNat_withFcHi_withFcLo _ lo hi

end pairs

/-- Settles O15: the pair of each register runs the two byte rules of that register, on its own voice. -/
theorem twoByteWritesAssembleTheirRegister : Obligations.TwoByteWritesAssembleTheirRegister := by
  intro lo hi s t u
  refine ⟨?_, ?_, ?_, ?_, ?_, ?_, ?_⟩
  · rintro ⟨⟩ ⟨⟩; exact s.freq_of_two_writes params 0 lo hi
  · rintro ⟨⟩ ⟨⟩; exact s.freq_of_two_writes params 1 lo hi
  · rintro ⟨⟩ ⟨⟩; exact s.freq_of_two_writes params 2 lo hi
  · rintro ⟨⟩ ⟨⟩; exact s.pw_of_two_writes params 0 lo hi
  · rintro ⟨⟩ ⟨⟩; exact s.pw_of_two_writes params 1 lo hi
  · rintro ⟨⟩ ⟨⟩; exact s.pw_of_two_writes params 2 lo hi
  · rintro ⟨⟩ ⟨⟩; exact s.fc_of_two_writes params lo hi

end Sys2Proof.Machine
end

section
/-! Writes to a voice's waveform registers and to its CTRL register (40_waveform.md R70 to R76, 41_envelope.md R100):
the words of the register, the voice after the write, and the frame. -/

namespace Sys2Proof.Machine

open Sys2Proof.Claims

/-- A write to the window at `off` that is a write to voice `v` is so for every word of that offset (R55). -/
theorem voiceWrite_of_regWrite {off : Offset} {v : VoiceId} {f : Voice → Byte → Voice}
    (h : ∀ (s : State) (d : Byte), s.regWrite params off d = wrote s d v (f (s.voice v) d)) :
    VoiceWrite (0b010#3 ++ off) (decodeWrite off) v f :=
  fun d => ⟨decode_writeWord off d, fun s => by rw [exec_decodeWrite, h]⟩

theorem State.writeWave_eq_wrote (s : State) (v : VoiceId) (d : Byte) (f : WaveState → Byte → WaveState) :
    s.writeWave params v d f = wrote s d v { s.voice v with wave := f (s.voice v).wave d } := rfl

theorem State.writeCtrl_eq_wrote (s : State) (v : VoiceId) (d : Byte) :
    s.writeCtrl params v d = wrote s d v
      { wave := (s.voice v).wave.writeCtrl params d, env := (s.voice v).env.writeGate (ctrlGate d) } := rfl

/-! ### The registers of bytes -/

/-- Settles O8: offsets 0x00, 0x07 and 0x0E are the FREQ_LO registers of the three voices. -/
theorem freqLoWriteReplacesTheLowByte : Obligations.FreqLoWriteReplacesTheLowByte :=
  ⟨voiceWrite_of_regWrite (off := 0x00) fun s d => s.writeWave_eq_wrote 0 d .writeFreqLo,
    voiceWrite_of_regWrite (off := 0x07) fun s d => s.writeWave_eq_wrote 1 d .writeFreqLo,
    voiceWrite_of_regWrite (off := 0x0E) fun s d => s.writeWave_eq_wrote 2 d .writeFreqLo⟩

/-- Settles O9: offsets 0x01, 0x08 and 0x0F are the FREQ_HI registers of the three voices. -/
theorem freqHiWriteReplacesTheHighByte : Obligations.FreqHiWriteReplacesTheHighByte :=
  ⟨voiceWrite_of_regWrite (off := 0x01) fun s d => s.writeWave_eq_wrote 0 d .writeFreqHi,
    voiceWrite_of_regWrite (off := 0x08) fun s d => s.writeWave_eq_wrote 1 d .writeFreqHi,
    voiceWrite_of_regWrite (off := 0x0F) fun s d => s.writeWave_eq_wrote 2 d .writeFreqHi⟩

/-- Settles O10: offsets 0x02, 0x09 and 0x10 are the PW_LO registers of the three voices. -/
theorem pwLoWriteReplacesTheLowByte : Obligations.PwLoWriteReplacesTheLowByte :=
  ⟨voiceWrite_of_regWrite (off := 0x02) fun s d => s.writeWave_eq_wrote 0 d .writePwLo,
    voiceWrite_of_regWrite (off := 0x09) fun s d => s.writeWave_eq_wrote 1 d .writePwLo,
    voiceWrite_of_regWrite (off := 0x10) fun s d => s.writeWave_eq_wrote 2 d .writePwLo⟩

/-- Settles O11: offsets 0x03, 0x0A and 0x11 are the PW_HI registers of the three voices. -/
theorem pwHiWriteReplacesTheHighNibble : Obligations.PwHiWriteReplacesTheHighNibble :=
  ⟨voiceWrite_of_regWrite (off := 0x03) fun s d => s.writeWave_eq_wrote 0 d .writePwHi,
    voiceWrite_of_regWrite (off := 0x0A) fun s d => s.writeWave_eq_wrote 1 d .writePwHi,
    voiceWrite_of_regWrite (off := 0x11) fun s d => s.writeWave_eq_wrote 2 d .writePwHi⟩

/-! ### The control register -/

theorem rate_eq_ratePeriodOf (n : BitVec 4) : rate n = ratePeriodOf n := by
  revert n
  decide

/-- The waveform generator's part of a CTRL write (R75, R76), for either value of `TEST_CLEARS_NOISE`. -/
theorem WaveState.writeCtrl_eq_controlWritten (p : Params) (w : WaveState) (d : Byte) :
    w.writeCtrl p d = { controlWritten w d with
      shift := if d.getLsbD 3 && !w.test && p.testClearsNoise then 0 else (controlWritten w d).shift } := by
  have hfields : w.writeCtrlFields d
      = { w with waveform := (d >>> 4).setWidth 4, ring := d.getLsbD 2, sync := d.getLsbD 1 } := rfl
  unfold WaveState.writeCtrl
  obtain ⟨hold, hnew, h⟩ | ⟨hold, hnew, h⟩ | ⟨hkeep, h⟩ := (w.writeCtrlFields d).writeTest_cases p (ctrlTest d)
  · change w.test = false at hold
    change d.getLsbD 3 = true at hnew
    rw [h, hfields]
    simp only [controlWritten, hold, hnew, Bool.not_false, Bool.not_true, Bool.and_self, Bool.true_and,
      if_true, if_false, Bool.false_eq_true]
  · change w.test = true at hold
    change d.getLsbD 3 = false at hnew
    rw [h, hfields]
    simp only [controlWritten, hold, hnew, noiseReload, Bool.not_false, Bool.not_true, Bool.and_self,
      Bool.false_and, if_true, if_false, Bool.false_eq_true]
  · change w.test = d.getLsbD 3 at hkeep
    rw [h, hfields]
    simp only [controlWritten, ← hkeep, Bool.and_not_self, Bool.not_and_self, Bool.false_and, if_false,
      Bool.false_eq_true]

/-- The machine's `TEST_CLEARS_NOISE` is false. -/
theorem WaveState.writeCtrl_params (w : WaveState) (d : Byte) : w.writeCtrl params d = controlWritten w d := by
  have hclears : params.testClearsNoise = false := rfl
  rw [w.writeCtrl_eq_controlWritten, hclears, Bool.and_false]
  rfl

/-- The envelope generator's part of a CTRL write (R100). -/
theorem EnvState.writeGate_eq_gateWritten (e : EnvState) (g : Bool) : e.writeGate g = gateWritten e g := by
  obtain ⟨hold, rfl, h⟩ | ⟨hold, rfl, h⟩ | ⟨rfl, h⟩ := e.writeGate_cases g
  · simp [h, gateWritten, hold, rate_eq_ratePeriodOf]
  · simp [h, gateWritten, hold, rate_eq_ratePeriodOf]
  · simp [h, gateWritten]

/-- A CTRL write in the words of R75, R76 and R100. -/
theorem State.writeCtrl_eq_wrote_controlWritten (s : State) (v : VoiceId) (d : Byte) :
    s.writeCtrl params v d = wrote s d v
      { wave := controlWritten (s.voice v).wave d, env := gateWritten (s.voice v).env (d.getLsbD 0) } := by
  rw [s.writeCtrl_eq_wrote, WaveState.writeCtrl_params, EnvState.writeGate_eq_gateWritten]
  rfl

/-- Settles O12: offsets 0x04, 0x0B and 0x12 are the CTRL registers of the three voices. -/
theorem ctrlWriteSetsControlBitsTestAndGate : Obligations.CtrlWriteSetsControlBitsTestAndGate :=
  ⟨⟨voiceWrite_of_regWrite (off := 0x04) fun s d => s.writeCtrl_eq_wrote_controlWritten 0 d,
    voiceWrite_of_regWrite (off := 0x0B) fun s d => s.writeCtrl_eq_wrote_controlWritten 1 d,
    voiceWrite_of_regWrite (off := 0x12) fun s d => s.writeCtrl_eq_wrote_controlWritten 2 d⟩,
    WaveState.writeCtrl_eq_controlWritten⟩

end Sys2Proof.Machine
end

section
/-! The oscillator clock in closed form (40_waveform.md R80 to R84): the phase, the rise latch, the noise register. -/

namespace Sys2Proof.Machine

open Sys2Proof.Claims

/-! ### The noise register and its clock count -/

theorem lfsrStep_eq_lfsr (x : BitVec 23) : lfsrStep x = lfsr x := by
  have hshift : (x <<< 1) &&& 0x7FFFFF = x <<< 1 := BitVec.and_allOnes
  have hbit : ((x >>> 22) ^^^ (x >>> 17)) &&& 1
      = (BitVec.ofBool (x.getLsbD 22 ^^ x.getLsbD 17)).setWidth 23 :=
    BitVec.and_one_eq_setWidth_ofBool_getLsbD.trans (by simp)
  rw [lfsr, hshift, hbit, lfsrStep]

theorem lfsrSteps_eq_iterate : ∀ (k : Nat) (x : BitVec 23), lfsrSteps k x = lfsr^[k] x
  | 0, _ => rfl
  | k + 1, x => by rw [lfsrSteps, lfsrSteps_eq_iterate k, lfsrStep_eq_lfsr, Function.iterate_succ_apply]

/-- A quotient counts the rises of bit 19 that lie before it; the count of R82 is a difference of two. -/
theorem noiseClocks_eq (prev dacc : Nat) :
    noiseClocks prev dacc = (prev + dacc + 0x80000) / 0x100000 - (prev + 0x80000) / 0x100000 := by
  unfold noiseClocks floorDiv
  rw [Int.fdiv_eq_ediv_of_nonneg _ (by decide), Int.fdiv_eq_ediv_of_nonneg _ (by decide)]
  omega

/-- The closed form of R82 counts what the rule's words say. -/
theorem bit19Rises_eq_noiseClocks (prev dacc : Nat) : bit19Rises prev dacc = noiseClocks prev dacc := by
  have hmod : bit19Rises prev dacc = ((Finset.Ioc prev (prev + dacc)).filter (· ≡ 2 ^ 19 [MOD 2 ^ 20])).card :=
    congrArg Finset.card (Finset.filter_congr fun _ _ => Iff.rfl)
  have hcard := Nat.Ioc_filter_modEq_card prev (prev + dacc) (r := 2 ^ 20) (by decide) (2 ^ 19)
  have hfloor (a : Nat) : ⌊((a : ℚ) - (2 ^ 19 : Nat)) / (2 ^ 20 : Nat)⌋
      = ((a : Int) - (2 ^ 19 : Nat)) / (2 ^ 20 : Nat) := by
    rw [← Rat.floor_intCast_div_natCast, Int.cast_sub, Int.cast_natCast, Int.cast_natCast]
  rw [← hmod, hfloor, hfloor] at hcard
  rw [noiseClocks_eq]
  omega

/-- A span split in two has the rises of both parts, the second counted from the wrapped accumulator. -/
theorem noiseClocks_add (prev a b : Nat) :
    noiseClocks prev (a + b) = noiseClocks prev a + noiseClocks ((prev + a) % 2 ^ 24) b := by
  simp only [noiseClocks_eq]
  omega

/-! ### The fields after a clock -/

theorem getLsbD_23_eq (x : BitVec 24) : x.getLsbD 23 = decide (0x800000 ≤ x.toNat) := by
  rw [← BitVec.msb_eq_decide x]
  exact (BitVec.msb_eq_getLsbD_last x).symm

theorem msbRises_iff (prev acc : BitVec 24) :
    msbRises prev acc = true ↔ prev.toNat < 2 ^ 23 ∧ 2 ^ 23 ≤ acc.toNat := by
  simp only [msbRises, rises, getLsbD_23_eq, Bool.and_eq_true, Bool.not_eq_true', decide_eq_false_iff_not,
    decide_eq_true_eq, not_le]
  rfl

section advance

variable (w : WaveState) (n : Nat)

theorem WaveState.toNat_acc_advance : (w.advance n).acc.toNat = (w.acc.toNat + n * w.freq.toNat) % 2 ^ 24 :=
  BitVec.toNat_ofNat _ _

theorem WaveState.msbRising_advance : (w.advance n).msbRising = msbRises w.acc (w.advance n).acc := rfl

theorem WaveState.shift_advance :
    (w.advance n).shift = lfsr^[noiseClocks w.acc.toNat (n * w.freq.toNat)] w.shift := lfsrSteps_eq_iterate _ _

end advance

/-- Settles O33: under test nothing moves (R80); else `WaveAdvance` writes three fields (R81, R82). -/
theorem oscillatorClockAdvancesThePhase : Obligations.OscillatorClockAdvancesThePhase := by
  refine fun w n => ⟨fun htest => WaveState.clock_of_test htest n, fun htest => ?_⟩
  rw [WaveState.clock_of_not_test htest]
  exact ⟨w.toNat_acc_advance n, msbRises_iff _ _, rfl⟩

/-- Settles O34: the closed form of R82 is the number of rises, and the model's step is that of R83. -/
theorem noiseStepsOncePerBitNineteenRise : Obligations.NoiseStepsOncePerBitNineteenRise := by
  intro w n htest
  rw [WaveState.clock_of_not_test htest, w.shift_advance, bit19Rises_eq_noiseClocks]

/-! ### Additivity -/

theorem WaveState.acc_advance_advance (w : WaveState) (a b : Nat) :
    ((w.advance a).advance b).acc = (w.advance (a + b)).acc := by
  refine BitVec.eq_of_toNat_eq ?_
  calc ((w.advance a).advance b).acc.toNat
    _ = ((w.advance a).acc.toNat + b * w.freq.toNat) % 2 ^ 24 := WaveState.toNat_acc_advance _ b
    _ = (w.acc.toNat + (a * w.freq.toNat + b * w.freq.toNat)) % 2 ^ 24 := by
      rw [w.toNat_acc_advance, Nat.mod_add_mod, Nat.add_assoc]
    _ = (w.advance (a + b)).acc.toNat := by rw [w.toNat_acc_advance, Nat.add_mul]

theorem WaveState.shift_advance_advance (w : WaveState) (a b : Nat) :
    ((w.advance a).advance b).shift = (w.advance (a + b)).shift := by
  have hcount := noiseClocks_add w.acc.toNat (a * w.freq.toNat) (b * w.freq.toNat)
  calc ((w.advance a).advance b).shift
    _ = lfsr^[noiseClocks (w.advance a).acc.toNat (b * w.freq.toNat)] (w.advance a).shift :=
      WaveState.shift_advance _ b
    _ = lfsr^[noiseClocks w.acc.toNat ((a + b) * w.freq.toNat)] w.shift := by
      rw [w.shift_advance, w.toNat_acc_advance, ← Function.iterate_add_apply, Nat.add_mul, hcount, Nat.add_comm]
    _ = (w.advance (a + b)).shift := (w.shift_advance (a + b)).symm

/-- Settles O35: a clock writes the accumulator and the noise register, which are additive, and the rise latch. -/
theorem oscillatorClockIsAdditive : Obligations.OscillatorClockIsAdditive := by
  intro w a b
  cases htest : w.test with
  | true => simp only [WaveState.clock_of_test htest]
  | false =>
    have htest' : (w.advance a).test = false := htest
    rw [WaveState.clock_of_not_test htest, WaveState.clock_of_not_test htest', WaveState.clock_of_not_test htest]
    calc { (w.advance a).advance b with msbRising := w.msbRising }
      _ = { w with acc := ((w.advance a).advance b).acc, shift := ((w.advance a).advance b).shift } := rfl
      _ = { w with acc := (w.advance (a + b)).acc, shift := (w.advance (a + b)).shift } := by
        rw [w.acc_advance_advance, w.shift_advance_advance]

end Sys2Proof.Machine
end

section
/-! Hard sync (40_waveform.md R96, R97): what `Synchronize` reads it never writes. -/

namespace Sys2Proof.Machine

/-- Voice `v` resets its destination (R96). -/
def State.SyncFires (s : State) (v : VoiceId) : Prop :=
  (s.wave v).msbRising = true ∧ (s.wave (v + 1)).sync = true
    ∧ ¬ ((s.wave v).sync = true ∧ (s.wave (v + 2)).msbRising = true)

/-- The accumulator of voice `v` is zeroed. -/
def State.zeroAcc (s : State) (v : VoiceId) : State := s.setWave v { s.wave v with acc := 0 }

theorem syncResets_iff (rising destSync ownSync sourceRising : Bool) :
    syncResets rising destSync ownSync sourceRising = true
      ↔ rising = true ∧ destSync = true ∧ ¬ (ownSync = true ∧ sourceRising = true) := by
  simp only [syncResets, Bool.and_eq_true, Bool.not_eq_true', ← Bool.not_eq_true, and_assoc]

theorem State.synchronize_of_fires {s : State} {v : VoiceId} (h : s.SyncFires v) :
    s.synchronize v = s.zeroAcc (v + 1) := if_pos ((syncResets_iff _ _ _ _).mpr h)

theorem State.synchronize_of_not_fires {s : State} {v : VoiceId} (h : ¬ s.SyncFires v) : s.synchronize v = s :=
  if_neg (mt (syncResets_iff _ _ _ _).mp h)

/-- Settles O36: the two branches of R96. -/
theorem synchronizeZeroesOnlyTheDestination : Obligations.SynchronizeZeroesOnlyTheDestination :=
  fun _ _ => ⟨State.synchronize_of_fires, State.synchronize_of_not_fires⟩

section zeroAcc

variable (s : State) (u v : VoiceId)

theorem State.voice_zeroAcc :
    (s.zeroAcc v).voice u
      = if u = v then { s.voice u with wave := { s.wave u with acc := 0 } } else s.voice u := by
  rw [State.zeroAcc, State.setWave, State.voice_setVoice]
  split
  · next h => rw [h]
  · rfl

@[simp] theorem State.msbRising_zeroAcc : ((s.zeroAcc v).wave u).msbRising = (s.wave u).msbRising := by
  rw [State.wave, State.voice_zeroAcc]
  split <;> rfl

@[simp] theorem State.sync_zeroAcc : ((s.zeroAcc v).wave u).sync = (s.wave u).sync := by
  rw [State.wave, State.voice_zeroAcc]
  split <;> rfl

/-- The condition of R96 reads no accumulator. -/
theorem State.syncFires_zeroAcc : (s.zeroAcc u).SyncFires v ↔ s.SyncFires v := by
  simp only [State.SyncFires, State.msbRising_zeroAcc, State.sync_zeroAcc]

theorem State.zeroAcc_comm : (s.zeroAcc u).zeroAcc v = (s.zeroAcc v).zeroAcc u := by
  refine State.ext_voices (fun x => ?_) rfl rfl rfl rfl rfl rfl
  simp only [State.voice_zeroAcc, State.wave]
  split <;> split <;> rfl

end zeroAcc

/-- Settles O37: neither call changes whether the other one resets, and the two resets commute. -/
theorem synchronizeCallsCommute : Obligations.SynchronizeCallsCommute := by
  intro s u v
  have hu (x : VoiceId) : (s.zeroAcc x).SyncFires u ↔ s.SyncFires u := s.syncFires_zeroAcc x u
  have hv (x : VoiceId) : (s.zeroAcc x).SyncFires v ↔ s.SyncFires v := s.syncFires_zeroAcc x v
  by_cases fu : s.SyncFires u
  · rw [State.synchronize_of_fires fu]
    by_cases fv : s.SyncFires v
    · rw [State.synchronize_of_fires fv, State.synchronize_of_fires ((hv _).mpr fv),
        State.synchronize_of_fires ((hu _).mpr fu), State.zeroAcc_comm]
    · rw [State.synchronize_of_not_fires fv, State.synchronize_of_not_fires (mt (hv _).mp fv),
        State.synchronize_of_fires fu]
  · rw [State.synchronize_of_not_fires fu]
    by_cases fv : s.SyncFires v
    · rw [State.synchronize_of_fires fv, State.synchronize_of_not_fires (mt (hu _).mp fu)]
    · rw [State.synchronize_of_not_fires fv, State.synchronize_of_not_fires fu]

end Sys2Proof.Machine
end

section
/-! The test bit stops an oscillator (40_waveform.md R80, 10_state.md R15). -/

namespace Sys2Proof.Machine

/-- Under test, with the accumulator at 0, neither a clock nor a hard sync does anything. -/
theorem WaveState.Moved.eq_of_test {w x : WaveState} (h : w.Moved x) (htest : w.test = true) (hacc : w.acc = 0) :
    x = w := by
  induction h with
  | refl => rfl
  | tail _ tick ih =>
    subst ih
    cases tick with
    | clock n => exact WaveState.clock_of_test htest n
    | sync => rw [← hacc]

theorem WaveState.pulse_of_test {w : WaveState} (htest : w.test = true) : w.pulse = 0xFFF := by
  rw [WaveState.pulse, htest, Bool.true_or, if_pos rfl]

/-- Any number of cycles is only clocks and hard syncs to a generator. -/
theorem moved_of_exec_clk {dt : Nat} {s t : State} (h : exec (.clk dt) s = .next t) (v : VoiceId) :
    (s.wave v).Moved (t.wave v) := by
  obtain rfl : s.clock params dt = t := Host.Outcome.next.inj h
  obtain rfl | hdt := Nat.eq_zero_or_pos dt
  · exact .refl
  · exact s.moved_clock params hdt v

/-- Settles O39: in a legal state a generator under test has its accumulator at 0 (R15), where nothing moves it. -/
theorem testBitFreezesTheOscillator : Obligations.TestBitFreezesTheOscillator := by
  intro dt s t v hlegal htest hexec
  obtain ⟨hvoices, _⟩ := s.legal_iff.mp hlegal
  obtain ⟨hwave, _⟩ := hvoices v
  have hacc : (s.wave v).acc = 0 := hwave htest
  have hsame : t.wave v = s.wave v := (moved_of_exec_clk hexec v).eq_of_test htest hacc
  rw [hsame]
  exact ⟨rfl, hacc, WaveState.pulse_of_test htest⟩

end Sys2Proof.Machine
end

section
/-! The waveform outputs on naturals (40_waveform.md R85 to R95): one lemma per source of bits, then the selections. -/

namespace Sys2Proof.Machine

open Sys2Proof.Claims

/-- Bits 22 to 12 of a 24-bit value, shifted left by one (R87). -/
theorem toNat_triangleBits (x : BitVec 24) :
    (((x >>> 11) &&& 0xFFE).setWidth 12).toNat = (x.toNat / 2048) &&& 0xFFE := by
  have hfits : (x.toNat / 2048) &&& 0xFFE < 2 ^ 12 := Nat.lt_of_le_of_lt Nat.and_le_right (by decide)
  rw [BitVec.toNat_setWidth, BitVec.toNat_and, BitVec.toNat_ushiftRight, Nat.shiftRight_eq_div_pow]
  exact Nat.mod_eq_of_lt hfits

theorem toNat_tableOutput (b : Byte) : (tableOutput b).toNat = b.toNat * 16 := by
  have hb := b.isLt
  rw [tableOutput, BitVec.toNat_shiftLeft, BitVec.toNat_setWidth, Nat.shiftLeft_eq]
  omega

theorem toNat_tableOutput_and (b : Byte) {x : BitVec 12} {k : Nat} (hx : x.toNat = k) :
    (tableOutput b &&& x).toNat = b.toNat * 16 &&& k := by
  rw [BitVec.toNat_and, toNat_tableOutput, hx]

section sources

variable (w : WaveState)

theorem WaveState.toNat_saw : w.saw.toNat = w.acc.toNat / 4096 := by
  have hacc := w.acc.isLt
  rw [WaveState.saw, BitVec.toNat_setWidth, BitVec.toNat_ushiftRight, Nat.shiftRight_eq_div_pow]
  omega

/-- The accumulator of the sync source enters through bit 23 alone (R87). -/
theorem WaveState.toNat_tri (srcAcc : BitVec 24) :
    (w.tri srcAcc).toNat = triangle w.ring w.acc.toNat srcAcc.toNat := by
  have hfold : (if w.ring then w.acc ^^^ srcAcc else w.acc).toNat
      = if w.ring then w.acc.toNat ^^^ srcAcc.toNat else w.acc.toNat := by split <;> simp
  have hdown : (w.acc ^^^ 0xFFFFFF).toNat = w.acc.toNat ^^^ 0xFFFFFF := BitVec.toNat_xor ..
  simp only [WaveState.tri, triangle, getLsbD_23_eq, decide_eq_true_eq, hfold, apply_ite BitVec.toNat,
    toNat_triangleBits, hdown]

theorem WaveState.toNat_pulse : w.pulse.toNat = Claims.pulse w.test w.acc.toNat w.pw.toNat := by
  simp only [WaveState.pulse, Claims.pulse, Bool.or_eq_true, decide_eq_true_eq, BitVec.le_def, w.toNat_saw]
  split <;> rfl

/-- The machine's taps are those of R6. -/
theorem WaveState.toNat_noise : (w.noise params).toNat = Claims.noise w.shift.toNat := by
  simp only [WaveState.noise, Claims.noise, toNat_append_eq, BitVec.toNat_ofBool, BitVec.ofNat_eq_ofNat,
    BitVec.toNat_ofNat, params, defaultNoiseTap, BitVec.getLsbD, Fin.coe_ofNat_eq_mod, Nat.reduceMod]
  omega

end sources

/-! ### The selections -/

/-- An index into a table is the value it was cut from. -/
theorem eq_ofNat_of_toNat_eq {n k : Nat} {x : BitVec n} (h : x.toNat = k) : x = BitVec.ofNat n k := by
  rw [← h, BitVec.ofNat_toNat, BitVec.setWidth_eq]

/-- Selection by selection from 0x0; those from 0x9 on, which combine noise with another wave, are 0 (R95). -/
theorem WaveState.toNat_out (w : WaveState) (srcAcc : BitVec 24) :
    (w.out params srcAcc).toNat = waveOutput w srcAcc.toNat := by
  have hsaw : w.saw = BitVec.ofNat 12 (w.acc.toNat / 4096) := eq_ofNat_of_toNat_eq w.toNat_saw
  have hhalf : w.tri srcAcc >>> 1 = BitVec.ofNat 12 (triangle w.ring w.acc.toNat srcAcc.toNat / 2) :=
    eq_ofNat_of_toNat_eq (by rw [BitVec.toNat_ushiftRight, w.toNat_tri, Nat.shiftRight_eq_div_pow, pow_one])
  have hsel := w.waveform.isLt
  unfold WaveState.out waveOutput
  generalize w.waveform.toNat = sel at hsel ⊢
  interval_cases sel
  · rfl
  · exact w.toNat_tri srcAcc
  · exact w.toNat_saw
  · rw [hsaw]; exact toNat_tableOutput _
  · exact w.toNat_pulse
  · rw [hhalf]; exact toNat_tableOutput_and _ w.toNat_pulse
  · rw [hsaw]; exact toNat_tableOutput_and _ w.toNat_pulse
  · rw [hsaw]; exact toNat_tableOutput_and _ w.toNat_pulse
  · exact w.toNat_noise
  all_goals rfl

/-- Settles O23: selection by selection; the sync source of voice `v` is voice `(v + 2) mod 3`. -/
theorem waveformOutputsFollowTheirFormulas : Obligations.WaveformOutputsFollowTheirFormulas :=
  fun s v => (s.wave v).toNat_out (s.wave (v + 2)).acc

end Sys2Proof.Machine
end

section
/-! Writes to a voice's AD and SR registers (41_envelope.md R101, R102): the words of the register, the voice after the
write, and the frame. -/

namespace Sys2Proof.Machine

open Sys2Proof.Claims

/-- AD write in the words of R101. -/
def adWritten (e : EnvState) (d : Byte) : EnvState :=
  { e with
    attack := (d >>> 4).setWidth 4
    decay := d.setWidth 4
    ratePeriod :=
      if e.state = .attack then ratePeriodOf ((d >>> 4).setWidth 4)
      else if e.state = .decaySustain then ratePeriodOf (d.setWidth 4) else e.ratePeriod }

/-- SR write in the words of R102. -/
def srWritten (e : EnvState) (d : Byte) : EnvState :=
  { e with
    sustain := (d >>> 4).setWidth 4
    release := d.setWidth 4
    ratePeriod := if e.state = .release then ratePeriodOf (d.setWidth 4) else e.ratePeriod }

theorem highNibble_eq_setWidth (d : Byte) : highNibble d = (d >>> 4).setWidth 4 :=
  BitVec.eq_of_toNat_eq (by simp [highNibble])

theorem lowNibble_eq_setWidth (d : Byte) : lowNibble d = d.setWidth 4 := by
  simp [lowNibble, BitVec.setWidth_eq_extractLsb']

/-- Phase by phase: ATTACK and DECAY_SUSTAIN reload the period, RELEASE keeps it. -/
theorem EnvState.writeAd_eq_adWritten (e : EnvState) (d : Byte) : e.writeAd d = adWritten e d := by
  cases hs : e.state <;>
    simp [EnvState.writeAd, adWritten, hs, highNibble_eq_setWidth, lowNibble_eq_setWidth, rate_eq_ratePeriodOf]

/-- Phase by phase: only RELEASE reloads the period. -/
theorem EnvState.writeSr_eq_srWritten (e : EnvState) (d : Byte) : e.writeSr d = srWritten e d := by
  cases hs : e.state <;>
    simp [EnvState.writeSr, srWritten, hs, highNibble_eq_setWidth, lowNibble_eq_setWidth, rate_eq_ratePeriodOf]

theorem State.writeEnv_eq_wrote (s : State) (v : VoiceId) (d : Byte) (f : EnvState → Byte → EnvState) :
    s.writeEnv params v d f = wrote s d v { s.voice v with env := f (s.voice v).env d } := rfl

theorem State.writeAd_eq_wrote_adWritten (s : State) (v : VoiceId) (d : Byte) :
    s.writeEnv params v d .writeAd = wrote s d v { s.voice v with env := adWritten (s.voice v).env d } := by
  rw [s.writeEnv_eq_wrote, EnvState.writeAd_eq_adWritten]

theorem State.writeSr_eq_wrote_srWritten (s : State) (v : VoiceId) (d : Byte) :
    s.writeEnv params v d .writeSr = wrote s d v { s.voice v with env := srWritten (s.voice v).env d } := by
  rw [s.writeEnv_eq_wrote, EnvState.writeSr_eq_srWritten]

/-- Settles O13: offsets 0x05, 0x0C and 0x13 are the AD registers of the three voices. -/
theorem adWriteSetsFieldsAndReloadsThePeriod : Obligations.AdWriteSetsFieldsAndReloadsThePeriod :=
  ⟨voiceWrite_of_regWrite (off := 0x05) fun s d => s.writeAd_eq_wrote_adWritten 0 d,
    voiceWrite_of_regWrite (off := 0x0C) fun s d => s.writeAd_eq_wrote_adWritten 1 d,
    voiceWrite_of_regWrite (off := 0x13) fun s d => s.writeAd_eq_wrote_adWritten 2 d⟩

/-- Settles O14: offsets 0x06, 0x0D and 0x14 are the SR registers of the three voices. -/
theorem srWriteSetsFieldsAndReloadsThePeriod : Obligations.SrWriteSetsFieldsAndReloadsThePeriod :=
  ⟨voiceWrite_of_regWrite (off := 0x06) fun s d => s.writeSr_eq_wrote_srWritten 0 d,
    voiceWrite_of_regWrite (off := 0x0D) fun s d => s.writeSr_eq_wrote_srWritten 1 d,
    voiceWrite_of_regWrite (off := 0x14) fun s d => s.writeSr_eq_wrote_srWritten 2 d⟩

end Sys2Proof.Machine
end

section
/-! One envelope step, field by field (41_envelope.md R105 to R109): the action of the phase, then the period and the
freeze that the new level brings. -/

namespace Sys2Proof.Machine

open Sys2Proof.Claims

theorem toNat_sustainLevel (n : BitVec 4) : (sustainLevel n).toNat = n.toNat * 17 := by
  revert n
  decide

theorem ne_sustainLevel_iff (level : Byte) (n : BitVec 4) :
    level ≠ sustainLevel n ↔ level.toNat ≠ n.toNat * 17 := by
  rw [Ne, ← BitVec.toNat_inj, toNat_sustainLevel]

/-- The action in the claim's words: only ATTACK changes the phase, at the top level, and takes the decay's period
(R106, R108, R109). -/
theorem EnvState.action_eq (e : EnvState) :
    e.action = { e with
      level := levelAfter e
      state := if e.state = .attack ∧ levelAfter e = 0xFF then .decaySustain else e.state
      ratePeriod := if e.state = .attack ∧ levelAfter e = 0xFF then ratePeriodOf e.decay else e.ratePeriod } := by
  cases e with
  | mk _ _ _ _ level _ _ sustain _ _ state _ =>
    cases state with
    | attack =>
      by_cases htop : level + 1 = 0xFF
      · simp only [EnvState.action, levelAfter, htop, rate_eq_ratePeriodOf, and_self, if_true]
      · simp only [EnvState.action, levelAfter, htop, and_false, if_false]
    | decaySustain =>
      simp only [EnvState.action, levelAfter, ne_sustainLevel_iff, ite_not]
      split <;> rfl
    | release => rfl

/-- The level table in the claim's words; the freeze is set at level 0 and never cleared (R107). -/
theorem EnvState.expPeriodUpdate_eq (e : EnvState) :
    e.expPeriodUpdate = { e with
      expPeriod := periodAfter e.level e.expPeriod
      holdZero := e.holdZero || decide (e.level = 0) } := by
  have hlevel (k : Byte) : e.level = k ↔ e.level.toNat = k.toNat := BitVec.toNat_inj.symm
  unfold EnvState.expPeriodUpdate periodAfter
  simp only [hlevel]
  split <;> simp_all

/-- Settles O40: the three cases of R105, the last one an action followed by the level table. -/
theorem envelopeStepFollowsItsPhase : Obligations.EnvelopeStepFollowsItsPhase := by
  intro e
  have hcounts : e.state ≠ .attack ∧ e.expCounter + 1 ≠ e.expPeriod
      ↔ ¬ (e.state = .attack ∨ e.expCounter + 1 = e.expPeriod) := not_or.symm
  obtain ⟨hphase, hne, hs⟩ | ⟨hacts, hheld, hs⟩ | ⟨hacts, hfree, hs⟩ := e.step_cases
  · have hidle := hcounts.mp ⟨hphase, hne⟩
    exact ⟨fun _ => hs, fun h => absurd h.left hidle, fun h => absurd h.left hidle⟩
  · exact ⟨fun h => absurd hacts (hcounts.mp h), fun _ => hs, fun h => by simp [hheld] at h⟩
  · refine ⟨fun h => absurd hacts (hcounts.mp h), fun h => by simp [hfree] at h, fun _ => ?_⟩
    rw [hs, EnvState.action_eq, EnvState.expPeriodUpdate_eq]
    simp only [hfree, Bool.false_or]
    rfl

end Sys2Proof.Machine
end

section
/-! The envelope clock (41_envelope.md R103, R104, R111): below the span to the next step it is an advance, from the
span on it is a step and the clock of what is left. Spans therefore split anywhere, and single cycles are the finest
split. -/

namespace Sys2Proof.Machine

open Sys2Proof.Claims

/-! ### The span -/

theorem rate_pos (n : BitVec 4) : 0 < rate n := by
  revert n
  decide

theorem EnvState.Legal.ratePeriod_pos {e : EnvState} (h : e.Legal) : 0 < e.ratePeriod := by
  obtain ⟨_, hp, _⟩ := h
  rw [hp]
  exact rate_pos _

theorem EnvState.Legal.cyclesToStep_pos {e : EnvState} (h : e.Legal) : 0 < e.cyclesToStep := by
  have hpos := h.ratePeriod_pos
  obtain ⟨hc, _⟩ := h
  unfold EnvState.cyclesToStep
  split <;> omega

/-- After a step the counter is 0, so the next span is the whole rate period (R105). -/
theorem EnvState.cyclesToStep_step {e : EnvState} (h : e.Legal) : e.step.cyclesToStep = e.step.ratePeriod := by
  rw [EnvState.cyclesToStep, EnvState.rateCounter_step, if_pos (EnvState.legal_step h).ratePeriod_pos, Nat.sub_zero]

/-! ### Advances short of the span -/

theorem EnvState.advance_zero {e : EnvState} (h : e.rateCounter ≤ 0x7FFF) : e.advance 0 = e := by
  simp [EnvState.advance, show ¬ 0x8000 ≤ e.rateCounter by omega]

/-- A step does not read the rate counter (R105). -/
theorem EnvState.step_advance (e : EnvState) (n : Nat) : (e.advance n).step = e.step := rfl

section short

variable {e : EnvState} {n : Nat}

theorem EnvState.legal_advance_of_lt (h : e.Legal) (hn : n < e.cyclesToStep) : (e.advance n).Legal :=
  EnvState.legal_advance h (by have := EnvState.rateCounter_add_cyclesToStep_le h; omega)

/-- An advance short of the span uses up its cycles of it, the wrap included (R104). -/
theorem EnvState.cyclesToStep_advance (h : e.Legal) (hn : n < e.cyclesToStep) :
    (e.advance n).cyclesToStep = e.cyclesToStep - n := by
  have hle := h.ratePeriod_le
  obtain ⟨hc, _⟩ := h
  have hp : (e.advance n).ratePeriod = e.ratePeriod := rfl
  unfold EnvState.cyclesToStep at hn ⊢
  rw [hp, EnvState.rateCounter_advance]
  split_ifs at hn ⊢ <;> omega

theorem EnvState.advance_advance {m : Nat} (h : e.Legal) (hn : n + m < e.cyclesToStep) :
    (e.advance n).advance m = e.advance (n + m) := by
  have hle := h.ratePeriod_le
  have hspan := EnvState.rateCounter_add_cyclesToStep_le h
  have hcounter : ((e.advance n).advance m).rateCounter = (e.advance (n + m)).rateCounter := by
    simp only [EnvState.rateCounter_advance]
    split_ifs <;> omega
  exact congrArg (fun c => { e with rateCounter := c }) hcounter

end short

/-! ### The clock, short of the span and from the span on -/

theorem EnvState.clock_of_lt {e : EnvState} {n : Nat} (hn : n < e.cyclesToStep) : e.clock n = e.advance n := by
  rw [EnvState.clock, EnvState.clock.go, if_pos hn]

/-- Every turn of the loop takes a cycle, so any fuel above the cycles left is enough (log entry 11). -/
theorem EnvState.clock_go_fuel : ∀ (f g : Nat) {n span : Nat} {e : EnvState}, e.Legal → 0 < span → n < f → n < g →
    EnvState.clock.go f n span e = EnvState.clock.go g n span e
  | f + 1, g + 1, n, span, e, h, hspan, hf, hg => by
    unfold EnvState.clock.go
    split
    · rfl
    · have hstep := EnvState.legal_step h
      exact EnvState.clock_go_fuel f g hstep hstep.ratePeriod_pos (by omega) (by omega)

theorem EnvState.clock_of_le {e : EnvState} {n : Nat} (h : e.Legal) (hn : e.cyclesToStep ≤ n) :
    e.clock n = e.step.clock (n - e.cyclesToStep) := by
  have hpos := h.cyclesToStep_pos
  have hstep := EnvState.legal_step h
  rw [EnvState.clock, EnvState.clock.go, if_neg (not_lt.mpr hn), EnvState.clock, EnvState.cyclesToStep_step h]
  exact EnvState.clock_go_fuel _ _ hstep hstep.ratePeriod_pos (by omega) (by omega)

theorem EnvState.clock_zero {e : EnvState} (h : e.Legal) : e.clock 0 = e := by
  rw [EnvState.clock_of_lt h.cyclesToStep_pos, EnvState.advance_zero h.left]

theorem EnvState.clock_cyclesToStep {e : EnvState} (h : e.Legal) : e.clock e.cyclesToStep = e.step := by
  rw [EnvState.clock_of_le h le_rfl, Nat.sub_self, EnvState.clock_zero (EnvState.legal_step h)]

/-! ### The span of R103 -/

/-- `cyclesToStep` in the claim's words, as an integer difference. -/
theorem EnvState.cast_cyclesToStep {e : EnvState} (h : e.Legal) :
    (e.cyclesToStep : Int)
      = if (e.ratePeriod : Int) - e.rateCounter > 0 then (e.ratePeriod : Int) - e.rateCounter
        else (e.ratePeriod : Int) - e.rateCounter + 0x7FFF := by
  obtain ⟨hc, _⟩ := h
  unfold EnvState.cyclesToStep
  split_ifs <;> omega

/-- Settles O41: the clock is an advance short of the span and one step at it. -/
theorem envelopeStepsAfterTheAdsrDelay : Obligations.EnvelopeStepsAfterTheAdsrDelay := by
  intro e h
  rw [← EnvState.cast_cyclesToStep h]
  exact ⟨fun n hn => EnvState.clock_of_lt (Int.ofNat_lt.mp hn), EnvState.clock_cyclesToStep h⟩

/-! ### Splits and single cycles -/

/-- The split of a span (R111), by induction on its first part: where that part holds a step, both sides make it;
where it is short of one, the second part goes on from the advanced counter. -/
theorem EnvState.clock_clock (a b : Nat) {e : EnvState} (h : e.Legal) : (e.clock a).clock b = e.clock (a + b) := by
  induction a using Nat.strong_induction_on generalizing e with
  | _ a ih =>
    have hpos := h.cyclesToStep_pos
    obtain ha | ha := Nat.lt_or_ge a e.cyclesToStep
    · have hspan := EnvState.cyclesToStep_advance h ha
      rw [EnvState.clock_of_lt ha]
      obtain hab | hab := Nat.lt_or_ge (a + b) e.cyclesToStep
      · rw [EnvState.clock_of_lt (e := e.advance a) (by omega), EnvState.advance_advance h hab,
          EnvState.clock_of_lt hab]
      · rw [EnvState.clock_of_le (EnvState.legal_advance_of_lt h ha) (by omega), EnvState.step_advance, hspan,
          EnvState.clock_of_le h hab]
        congr 1
        omega
    · calc (e.clock a).clock b
          = (e.step.clock (a - e.cyclesToStep)).clock b := by rw [EnvState.clock_of_le h ha]
        _ = e.step.clock (a - e.cyclesToStep + b) := ih _ (by omega) (EnvState.legal_step h)
        _ = e.step.clock (a + b - e.cyclesToStep) := by rw [Nat.sub_add_comm ha]
        _ = e.clock (a + b) := (EnvState.clock_of_le h (by omega)).symm

/-- The counter reaches the rate period in one cycle exactly when the span is one cycle. -/
theorem EnvState.rateCounter_advance_one_eq_iff {e : EnvState} (h : e.Legal) :
    (e.advance 1).rateCounter = e.ratePeriod ↔ e.cyclesToStep = 1 := by
  have hle := h.ratePeriod_le
  have hpos := h.ratePeriod_pos
  obtain ⟨hc, _⟩ := h
  unfold EnvState.cyclesToStep
  rw [EnvState.rateCounter_advance]
  split_ifs <;> omega

/-- The single cycle of R111 is a clock of one cycle. -/
theorem envCycle_eq_clock_one {e : EnvState} (h : e.Legal) : envCycle e = e.clock 1 := by
  have hcycle : envCycle e
      = if (e.advance 1).rateCounter = e.ratePeriod then (e.advance 1).step else e.advance 1 := rfl
  have hpos := h.cyclesToStep_pos
  rw [hcycle, EnvState.step_advance]
  by_cases hone : e.cyclesToStep = 1
  · rw [if_pos ((EnvState.rateCounter_advance_one_eq_iff h).mpr hone), ← hone, EnvState.clock_cyclesToStep h]
  · rw [if_neg (mt (EnvState.rateCounter_advance_one_eq_iff h).mp hone), EnvState.clock_of_lt (by omega)]

theorem EnvState.clock_eq_iterate (n : Nat) {e : EnvState} (h : e.Legal) : e.clock n = envCycle^[n] e := by
  induction n generalizing e with
  | zero => exact EnvState.clock_zero h
  | succ n ih =>
    rw [Function.iterate_succ_apply, envCycle_eq_clock_one h, ← ih (EnvState.legal_clock 1 h),
      EnvState.clock_clock 1 n h, Nat.add_comm]

/-- Settles O42: the clock by induction on single cycles, and the split of a span. -/
theorem envelopeClockEqualsCycleByCycle : Obligations.EnvelopeClockEqualsCycleByCycle :=
  fun _ h => ⟨fun n => EnvState.clock_eq_iterate n h, fun a b => EnvState.clock_clock a b h⟩

end Sys2Proof.Machine
end

section
/-! The voice output (R120): its equation per case of the mute, and its range from the widths of the waveform and of the
envelope level. -/

namespace Sys2Proof.Machine

theorem State.voiceOut_of_mute {p : Params} {v : VoiceId} (h : p.mute v = true) (s : State) : s.voiceOut p v = 0 :=
  if_pos h

theorem State.voiceOut_of_not_mute {p : Params} {v : VoiceId} (h : p.mute v = false) (s : State) :
    s.voiceOut p v
      = ((s.out p v).toNat - waveZero p.model) * (s.env v).level.toNat + voiceDc p.model :=
  if_neg (ne_true_of_eq_false h)

/-- The extremes of R122 are the waveform's two ends at the highest level, for any zero point on the waveform's scale. -/
theorem wave_mul_level_bounds (w : BitVec 12) (l : Byte) {z : Int} (hz : 0 ≤ z) (hz' : z ≤ 4095) :
    (0 - z) * 255 ≤ (w.toNat - z) * l.toNat ∧ (w.toNat - z) * l.toNat ≤ (4095 - z) * 255 := by
  have hw : (w.toNat : Int) ≤ 4095 := by have := w.isLt; omega
  have hl : (l.toNat : Int) ≤ 255 := by have := l.isLt; omega
  constructor
  · calc (0 - z) * 255
        ≤ (0 - z) * l.toNat := mul_le_mul_of_nonpos_left hl (by omega)
      _ ≤ (w.toNat - z) * l.toNat := mul_le_mul_of_nonneg_right (by omega) (by omega)
  · calc (w.toNat - z) * l.toNat
        ≤ (4095 - z) * l.toNat := mul_le_mul_of_nonneg_right (by omega) (by omega)
      _ ≤ (4095 - z) * 255 := mul_le_mul_of_nonneg_left hl (by omega)

/-- Settles O48: the voice output's equation at each model's constants, and the bounds at that model's zero point. -/
theorem voiceOutputFormulaAndRange : Obligations.VoiceOutputFormulaAndRange := by
  intro p s v
  refine ⟨fun hmute => s.voiceOut_of_mute hmute, fun hmute hmodel => ?mos6581, fun hmute hmodel => ?mos8580⟩
  case mos6581 =>
    have hout := s.voiceOut_of_not_mute hmute
    rw [hmodel, waveZero_mos6581, voiceDc_mos6581] at hout
    obtain ⟨hlow, hhigh⟩ := wave_mul_level_bounds (s.out p v) (s.env v).level (z := 0x380) (by decide) (by decide)
    exact ⟨hout, by omega, by omega⟩
  case mos8580 =>
    have hout := s.voiceOut_of_not_mute hmute
    rw [hmodel, waveZero_mos8580, voiceDc_mos8580, add_zero] at hout
    obtain ⟨hlow, hhigh⟩ := wave_mul_level_bounds (s.out p v) (s.env v).level (z := 0x800) (by decide) (by decide)
    exact ⟨hout, by omega, by omega⟩

end Sys2Proof.Machine
end

section
/-! Writes to the filter's registers (43_filter.md R125 to R128): the words of the register, the filter after the write,
and the frame. -/

namespace Sys2Proof.Machine

open Sys2Proof.Claims

/-- A write to the window at `off` that is a write to the filter is so for every word of that offset (R55). -/
theorem filterWrite_of_regWrite {off : Offset} {f : FilterState → Byte → FilterState}
    (h : ∀ (s : State) (d : Byte), s.regWrite params off d = s.writeFilter params d f) :
    FilterWrite (0b010#3 ++ off) (decodeWrite off) f :=
  fun d => ⟨decode_writeWord off d, fun s => by rw [exec_decodeWrite, h]; rfl⟩

/-- Settles O16: offset 0x15 is the FC_LO register. -/
theorem fcLoWriteReplacesThreeBits : Obligations.FcLoWriteReplacesThreeBits :=
  filterWrite_of_regWrite (off := 0x15) (f := .writeFcLo) fun _ _ => rfl

/-- Settles O17: offset 0x16 is the FC_HI register. -/
theorem fcHiWriteReplacesEightBits : Obligations.FcHiWriteReplacesEightBits :=
  filterWrite_of_regWrite (off := 0x16) (f := .writeFcHi) fun _ _ => rfl

/-- RES_FILT write in the words of R127. -/
theorem FilterState.writeResFilt_eq (f : FilterState) (d : Byte) :
    f.writeResFilt d = { f with res := (d >>> 4).setWidth 4, filt := d.setWidth 4 } := by
  rw [FilterState.writeResFilt, highNibble_eq_setWidth, lowNibble_eq_setWidth]

/-- Settles O18: offset 0x17 is the RES_FILT register. -/
theorem resFiltWriteSetsResonanceAndRoutes : Obligations.ResFiltWriteSetsResonanceAndRoutes :=
  filterWrite_of_regWrite (off := 0x17) fun s d => congrArg (s.busLatch params d).setFilter (s.filter.writeResFilt_eq d)

theorem modeField_eq_setWidth (d : Byte) : modeField d = (d >>> 4).setWidth 3 :=
  BitVec.eq_of_toNat_eq (by simp [modeField])

/-- MODE_VOL write in the words of R128. -/
theorem FilterState.writeModeVol_eq (f : FilterState) (d : Byte) :
    f.writeModeVol d
      = { f with vol := d.setWidth 4, mode := (d >>> 4).setWidth 3, voice3off := d.getLsbD 7 } := by
  rw [FilterState.writeModeVol, lowNibble_eq_setWidth, modeField_eq_setWidth, voice3offField]

/-- Settles O19: offset 0x18 is the MODE_VOL register. -/
theorem modeVolWriteSetsModeVolumeAndVoiceThreeOff : Obligations.ModeVolWriteSetsModeVolumeAndVoiceThreeOff :=
  filterWrite_of_regWrite (off := 0x18) fun s d => congrArg (s.busLatch params d).setFilter (s.filter.writeModeVol_eq d)

end Sys2Proof.Machine
end

section
/-! The filter's coefficients as rounded values of exact expressions (43_filter.md R130, R131). -/

namespace Sys2Proof.Machine

/-! ### The cutoff coefficient -/

/-- The 20 decimals of `piNum` are those of π. -/
theorem pi_mem_piNum_interval : (piNum : ℝ) / 10 ^ 20 < Real.pi ∧ Real.pi < ((piNum + 1 : ℕ) : ℝ) / 10 ^ 20 := by
  have hlow := Real.pi_gt_d20
  have hhigh := Real.pi_lt_d20
  norm_num [piNum] at hlow hhigh ⊢
  exact ⟨hlow, hhigh⟩

/-- The step of a frequency of `n / d` hertz is the nearest integer to its exact value, where `d` divides 1000 and the
frequency is at most 65535 Hz: `angularStep_gap`, read in thousandths of a hertz, leaves π no room on the other side of
a half-integer. -/
theorem angularStep_eq_round {n d e : Nat} (hde : d * e = 1000) (hn : n * e ≤ 65535000) :
    (angularStep n d : Int) = round ((n : ℝ) * (2 * Real.pi * (1048576 / 1000000) / d)) := by
  have hd : 0 < d := Nat.pos_of_mul_pos_right (hde ▸ by decide : 0 < d * e)
  have he : 0 < e := Nat.pos_of_mul_pos_left (hde ▸ by decide : 0 < d * e)
  obtain ⟨hlow, hhigh⟩ := pi_mem_piNum_interval
  refine roundDiv_eq_round _ (2 * (piNum + 1) * 1048576) _ n _ (by positivity) ?low ?high fun k hk => ?gap
  case low =>
    push_cast at hlow ⊢
    rw [div_lt_iff₀ (by positivity)] at hlow ⊢
    field_simp
    linarith
  case high =>
    push_cast at hhigh ⊢
    rw [lt_div_iff₀ (by positivity)] at hhigh ⊢
    field_simp
    linarith
  case gap =>
    have hscale : (2 * k + 1) * (d * 10 ^ 20 * 1000000) * e = (2 * k + 1) * 10 ^ 29 :=
      calc (2 * k + 1) * (d * 10 ^ 20 * 1000000) * e
        _ = (2 * k + 1) * (d * e * 10 ^ 26) := by ring
        _ = (2 * k + 1) * 10 ^ 29 := by rw [hde]; norm_num
    have hmilli (a : Nat) :
        2 * n * a < (2 * k + 1) * (d * 10 ^ 20 * 1000000) ↔ 2 * (n * e) * a < (2 * k + 1) * 10 ^ 29 := by
      rw [← hscale, ← Nat.mul_lt_mul_right he, show 2 * n * a * e = 2 * (n * e) * a by ring]
    exact (hmilli _).mpr (angularStep_gap (n * e) k hn ((hmilli _).mp hk))

/-- Settles O50: a cutoff table holds 16-bit frequencies in hertz. -/
theorem cutoffCoefficientIsTheRoundedRealValue : Obligations.CutoffCoefficientIsTheRoundedRealValue := by
  intro p f
  refine ⟨?_, rfl, rfl⟩
  have hrange : (p.f0 p.model f.fc).toNat * 1000 ≤ 65535000 := by omega
  rw [FilterState.w0, angularStep_eq_round (by norm_num) hrange]
  congr 1
  push_cast
  ring

/-! ### The resonance coefficient -/

/-- `roundDiv` is Mathlib's `round` of the quotient. -/
theorem roundDiv_eq_round_div (a : Nat) {b : Nat} (hb : 0 < b) : (roundDiv a b : Int) = round ((a : ℚ) / b) := by
  have hhalf : (a : ℚ) / b + 1 / 2 = ((2 * a + b : ℕ) : ℚ) / ((2 * b : ℕ) : ℚ) := by
    have : (b : ℚ) ≠ 0 := by positivity
    push_cast
    field_simp
  rw [round_eq, hhalf, Rat.floor_natCast_div_natCast]
  rfl

/-- `1024 / Q` over a common denominator (R131). -/
theorem q1024_quotient (r : Nat) :
    (1024 : ℚ) / (707 / 1000 + (r : ℚ) / 15) = (15360000 : ℕ) / ((10605 + 1000 * r : ℕ) : ℚ) := by
  have : (0 : ℚ) < 10605 + 1000 * r := by positivity
  push_cast
  field_simp
  ring

/-- Settles O49: each coefficient is the rounded quotient over a common denominator, and the table evaluates. -/
theorem resonanceCoefficientIsRounded : Obligations.ResonanceCoefficientIsRounded := by
  refine ⟨fun r => ?_, by decide⟩
  rw [q1024_quotient, q1024, roundDiv_eq_round_div _ (by omega)]

end Sys2Proof.Machine
end

section
/-! The filter's clock and output (43_filter.md R132 to R137): the inputs and their routes, one chunk, the loop of
chunks, and the mix of the taps. -/

namespace Sys2Proof.Machine

open Sys2Proof.Claims

/-- With Mathlib an integer may also be shifted by an integer: by a literal, that is the shift by a natural. -/
@[simp] theorem shiftRight_ofNat (a : Int) (n : Nat) :
    a >>> (ofNat(n) : Int) = a >>> (ofNat(n) : Nat) :=
  Int.shiftRight_natCast_right a n

/-! ### The inputs and their routes -/

section inputs

variable (f : FilterState) (o0 o1 o2 x : Int)

/-- R132: on integers a shift by 7 is the division by 128 that rounds down. -/
theorem FilterState.inputs_eq_scaled :
    f.inputs o0 o1 o2 x
      = { v0 := (scaled f o0 o1 o2 x).1
          v1 := (scaled f o0 o1 o2 x).2.1
          v2 := (scaled f o0 o1 o2 x).2.2.1
          xe := (scaled f o0 o1 o2 x).2.2.2 } := by
  simp [FilterState.inputs, scaled, Int.shiftRight_eq_div_pow]

theorem FilterState.routed_inputs :
    f.routed (f.inputs o0 o1 o2 x) = routeSum f true (scaled f o0 o1 o2 x) := by
  rw [f.inputs_eq_scaled]
  rfl

theorem FilterState.bypassed_inputs :
    f.bypassed (f.inputs o0 o1 o2 x) = routeSum f false (scaled f o0 o1 o2 x) := by
  rw [f.inputs_eq_scaled]
  simp only [FilterState.bypassed, routeSum, gated, Bool.not_eq_true']

end inputs

/-- Scaling and routing read only fields the host writes. -/
theorem FilterState.SameRegisters.scaled_eq {f g : FilterState} (h : f.SameRegisters g) (o0 o1 o2 x : Int) :
    scaled g o0 o1 o2 x = scaled f o0 o1 o2 x := by
  obtain ⟨-, -, hfilt, -, -, hoff⟩ := h
  rw [scaled, scaled, hfilt, hoff]

theorem FilterState.SameRegisters.routeSum_eq {f g : FilterState} (h : f.SameRegisters g) (b : Bool)
    (m : Int × Int × Int × Int) : routeSum g b m = routeSum f b m := by
  obtain ⟨-, -, hfilt, -, -, -⟩ := h
  rw [routeSum, routeSum, hfilt]

/-! ### The clock -/

/-- R135: on integers a shift is the division by a power of two that rounds down. -/
theorem FilterState.chunk_eq_filterChunk (p : Params) (vi : Int) (c : Nat) (f : FilterState) :
    f.chunk p vi c = filterChunk (f.w0CeilDt p) (q1024 f.res) vi c f := by
  simp [FilterState.chunk, filterChunk, Int.shiftRight_eq_div_pow]

section clock

variable {p : Params} (henabled : p.filterEnabled = true) (f : FilterState) {n : Nat} (o0 o1 o2 x : Int)

include henabled

/-- The enabled filter: the chunks run on the routed inputs, after `Vnf` has taken the others (R133 to R135). -/
theorem FilterState.clock_enabled :
    f.clock p n o0 o1 o2 x
      = chunkLoop (FilterState.chunk p (routeSum f true (scaled f o0 o1 o2 x))) n
          { f with vnf := routeSum f false (scaled f o0 o1 o2 x) } := by
  rw [FilterState.clock, if_pos henabled, f.routed_inputs, f.bypassed_inputs]

theorem FilterState.clock_of_le_eight (hpos : 1 ≤ n) (hle : n ≤ 8) :
    f.clock p n o0 o1 o2 x
      = { filterChunk (f.w0CeilDt p) (q1024 f.res) (routeSum f true (scaled f o0 o1 o2 x)) n f with
          vnf := routeSum f false (scaled f o0 o1 o2 x) } := by
  rw [f.clock_enabled henabled, chunkLoop_single _ _ hpos hle, FilterState.chunk_eq_filterChunk]
  rfl

/-- After a clock, the next clock on the same inputs goes on with the same chunks: no clock writes a register, and
`Vnf` already holds the sum it is given again. -/
theorem FilterState.clock_clock (m : Nat) :
    (f.clock p m o0 o1 o2 x).clock p n o0 o1 o2 x
      = chunkLoop (FilterState.chunk p (routeSum f true (scaled f o0 o1 o2 x))) n (f.clock p m o0 o1 o2 x) := by
  have hregs := f.sameRegisters_clock p m o0 o1 o2 x
  have hvnf : (f.clock p m o0 o1 o2 x).vnf = routeSum f false (scaled f o0 o1 o2 x) := by
    rw [f.clock_enabled henabled, FilterState.vnf_chunkLoop]
  rw [FilterState.clock_enabled henabled, hregs.scaled_eq, hregs.routeSum_eq, hregs.routeSum_eq, ← hvnf]

theorem FilterState.clock_of_eight_lt (hlt : 8 < n) :
    f.clock p n o0 o1 o2 x = (f.clock p 8 o0 o1 o2 x).clock p (n - 8) o0 o1 o2 x := by
  rw [f.clock_clock henabled, f.clock_enabled henabled (n := 8), f.clock_enabled henabled,
    chunkLoop_single _ _ (by decide) le_rfl, chunkLoop_pos _ _ (by omega), min_eq_right hlt.le]

end clock

/-- Settles O52: the three cases of the clock, by the filter's enable and the length of the span. -/
theorem filterClockFollowsItsChunks : Obligations.FilterClockFollowsItsChunks := by
  intro p f n o0 o1 o2 x
  refine ⟨fun henabled => f.clock_of_le_eight henabled o0 o1 o2 x,
    fun henabled => f.clock_of_eight_lt henabled o0 o1 o2 x, fun hdisabled => ?_⟩
  rw [FilterState.clock_disabled hdisabled, f.inputs_eq_scaled]

/-! ### The output -/

theorem mixerDcFilter_eq (m : Model) : mixerDcFilter m = if m = .mos6581 then -454 else 0 := by
  cases m with
  | mos6581 => exact mixerDcFilter_mos6581
  | mos8580 => rfl

/-- Settles O53: the two cases of the filter's enable, with the mixer's DC of each model. -/
theorem filterOutputMixesTheSelectedTaps : Obligations.FilterOutputMixesTheSelectedTaps := by
  intro p f
  refine ⟨fun henabled => ?enabled, fun hdisabled => ?disabled⟩
  case enabled =>
    rw [FilterState.out, if_pos henabled, mixerDcFilter_eq]
    rfl
  case disabled =>
    rw [FilterState.out, if_neg (ne_true_of_eq_false hdisabled), mixerDcFilter_eq]

end Sys2Proof.Machine
end

section
/-! The external filter (44_extfilter.md R145 to R147): its low-pass coefficient as a rounded and clamped real value,
and its clock as a loop of chunks. -/

namespace Sys2Proof.Machine

/-! ### The low-pass coefficient -/

theorem roundDiv_le_roundDiv {a a' : Nat} (b : Nat) (h : a ≤ a') : roundDiv a b ≤ roundDiv a' b :=
  Nat.div_le_div_right (by omega)

theorem angularStep_le_angularStep {n n' : Nat} (d : Nat) (h : n ≤ n') : angularStep n d ≤ angularStep n' d :=
  roundDiv_le_roundDiv _ (Nat.mul_le_mul_right _ h)

/-- The exact value under the rounding of R145, for a frequency in hertz. -/
noncomputable def exactStep (hz : ℝ) : ℝ := hz * (2 * Real.pi) * (1048576 / 1000000)

theorem round_exactStep_le {x y : ℝ} (h : x ≤ y) : round (exactStep x) ≤ round (exactStep y) := by
  have hexact : exactStep x ≤ exactStep y := by
    unfold exactStep
    gcongr
  rw [round_eq, round_eq]
  gcongr

/-- Up to 65535 Hz the computed step is the exact one, rounded. -/
theorem angularStep_milliHz_eq_round {m : Nat} (hm : m ≤ 65535000) :
    (angularStep m 1000 : Int) = round (exactStep (m / 1000)) := by
  rw [angularStep_eq_round (e := 1) (by norm_num) (by omega), exactStep]
  congr 1
  push_cast
  ring

/-- The clamp absorbs what 20 decimals of π leave open: from 65535 Hz on, both the computed and the exact step are past
it, because they are already at 65535 Hz; up to there they agree. -/
theorem min_angularStep_milliHz (m : Nat) :
    ((min (angularStep m 1000) w0lpMax : Nat) : Int) = min (round (exactStep (m / 1000))) 104858 := by
  obtain hm | hm := Nat.le_total m 65535000
  · rw [← angularStep_milliHz_eq_round hm]
    exact Nat.cast_min _ _
  · have hclamp : w0lpMax ≤ angularStep 65535000 1000 := by decide
    have hexact : (104858 : Int) ≤ round (exactStep (m / 1000)) :=
      calc (104858 : Int)
        _ ≤ angularStep 65535000 1000 := Int.ofNat_le.mpr hclamp
        _ = round (exactStep ((65535000 : Nat) / 1000)) := angularStep_milliHz_eq_round le_rfl
        _ ≤ round (exactStep (m / 1000)) := round_exactStep_le (by gcongr)
    rw [min_eq_right (hclamp.trans (angularStep_le_angularStep 1000 hm)), min_eq_right hexact]
    rfl

/-- `w0lp` at the frequency in force, given or by default. -/
theorem w0lp_eq_min_round (p : Params) :
    (w0lp p : Int) = min (round (exactStep (passFreqMilliHz p / 1000))) 104858 :=
  min_angularStep_milliHz (passFreqMilliHz p)

theorem passFreqMilliHz_of_some {p : Params} {m : Nat} (h : p.passFreq = some m) : passFreqMilliHz p = m := by
  rw [passFreqMilliHz, h, Option.getD_some]

/-- The default of R6 in hertz. -/
theorem passFreqMilliHz_div_of_none {p : Params} (h : p.passFreq = none) :
    (passFreqMilliHz p / 1000 : ℝ) = min 20000 ((45 / 100 : ℝ) * p.sampleRate) := by
  rw [passFreqMilliHz, h, Option.getD_none, Nat.cast_min, ← min_div_div_right (by norm_num)]
  congr 1
  · norm_num
  · push_cast
    ring

/-- Settles O51: the clamped step, at a given `PASS_FREQ` and at the default. -/
theorem externalLowPassCoefficientIsTheRoundedRealValue :
    Obligations.ExternalLowPassCoefficientIsTheRoundedRealValue := by
  refine ⟨rfl, fun p => ⟨fun m hgiven => ?given, fun hdefault => ?default⟩⟩
  case given => rw [w0lp_eq_min_round, passFreqMilliHz_of_some hgiven, exactStep]
  case default => rw [w0lp_eq_min_round, passFreqMilliHz_div_of_none hdefault, exactStep]

/-! ### The clock -/

/-- R146 in division: on integers a shift is the division by a power of two that rounds down. -/
theorem ExtFilterState.chunk_eq_div (p : Params) (vi : Int) (c : Nat) (x : ExtFilterState) :
    x.chunk p vi c
      = { vlp := x.vlp + (w0lp p * c / 256 : Int) * (vi - x.vlp) / 4096
          vhp := x.vhp + 105 * c * (x.vlp - x.vhp) / 1048576
          vo := x.vlp - x.vhp } := by
  simp [ExtFilterState.chunk, w0hp, Int.shiftRight_eq_div_pow]

section clock

variable {p : Params} (henabled : p.extFilterEnabled = true) (x : ExtFilterState) {n : Nat} (vi : Int)

include henabled

theorem ExtFilterState.clock_enabled : x.clock p n vi = chunkLoop (ExtFilterState.chunk p vi) n x :=
  if_pos henabled

theorem ExtFilterState.clock_of_le_eight (hpos : 1 ≤ n) (hle : n ≤ 8) : x.clock p n vi = x.chunk p vi n := by
  rw [x.clock_enabled henabled, chunkLoop_single _ _ hpos hle]

theorem ExtFilterState.clock_of_eight_lt (hlt : 8 < n) :
    x.clock p n vi = (x.clock p 8 vi).clock p (n - 8) vi := by
  rw [x.clock_of_le_eight henabled vi (by decide) le_rfl, ExtFilterState.clock_enabled henabled,
    ExtFilterState.clock_enabled henabled, chunkLoop_pos _ _ (by omega), min_eq_right hlt.le]

end clock

theorem mixerDcExt_eq (m : Model) : mixerDcExt m = if m = .mos6581 then 280065 else 0 := by
  cases m with
  | mos6581 => exact mixerDcExt_mos6581
  | mos8580 => rfl

/-- Settles O54: the three cases of the clock, by the filter's enable and the length of the span. -/
theorem externalFilterClockFollowsItsChunks : Obligations.ExternalFilterClockFollowsItsChunks := by
  intro p x n vi
  refine ⟨fun henabled hpos hle => ?one, fun henabled => x.clock_of_eight_lt henabled vi, fun hdisabled => ?disabled⟩
  case one => rw [x.clock_of_le_eight henabled vi hpos hle, x.chunk_eq_div]
  case disabled => rw [ExtFilterState.clock_disabled hdisabled, mixerDcExt_eq]

end Sys2Proof.Machine
end

section
/-! The operations of 45_sid_top.md that touch no generator: the reads, the writes to offsets without a register, RESET
and OUTPUT (R152 to R158, R166). -/

namespace Sys2Proof.Machine

open Sys2Proof.Claims

/-! ### The window -/

/-- Settles O20: the three rows latch the bus, with the machine's `BUS_TTL`. -/
theorem unmappedWritesOnlyLatchTheBus : Obligations.UnmappedWritesOnlyLatchTheBus := fun _ _ _ => ⟨rfl, rfl, rfl⟩

/-- Settles O21: POTX and POTY are offsets 0x19 and 0x1A of `RegRead`. -/
theorem potReadsReturnZero : Obligations.PotReadsReturnZero :=
  fun s => ⟨exec_decodeRead 0x19 s, exec_decodeRead 0x1A s⟩

/-- The upper 8 of the 12 bits are the quotient by 16 (R154), and the sync source of voice 2 is voice 1. -/
theorem State.osc3_eq (s : State) :
    s.osc3 params = BitVec.ofNat 8 (waveOutput (s.wave 2) (s.wave 1).acc.toNat / 16) := by
  have hout : (s.out params 2).toNat = waveOutput (s.wave 2) (s.wave 1).acc.toNat :=
    waveformOutputsFollowTheirFormulas s 2
  refine BitVec.eq_of_toNat_eq ?_
  rw [State.osc3, BitVec.toNat_setWidth, BitVec.toNat_ushiftRight, Nat.shiftRight_eq_div_pow, hout,
    BitVec.toNat_ofNat]

/-- Settles O22: OSC3 is the waveform output alone; no envelope and no mute enters it. -/
theorem osc3ReadsTheUpperWaveformBits : Obligations.Osc3ReadsTheUpperWaveformBits := by
  intro s
  rw [← s.osc3_eq]
  exact exec_decodeRead 0x1B s

/-- Settles O24: ENV3 is offset 0x1C of `RegRead`. -/
theorem env3ReadsTheLevelOfVoiceThree : Obligations.Env3ReadsTheLevelOfVoiceThree :=
  fun s => exec_decodeRead 0x1C s

/-- Settles O25: none of the five rows reads its offset. -/
theorem otherReadsReturnTheBusValue : Obligations.OtherReadsReturnTheBusValue :=
  fun _ _ => ⟨rfl, rfl, rfl, rfl, rfl⟩

/-! ### RESET and OUTPUT -/

/-- Settles O27: the reset values of the model are those of R28, field by field. -/
theorem resetGivesEveryFieldItsResetValue : Obligations.ResetGivesEveryFieldItsResetValue :=
  ⟨fun _ => rfl, rfl⟩

/-- The clipped sample is in the range of a 16-bit word, so the word holds it exactly (R166). -/
theorem ExtFilterState.toInt_sample (x : ExtFilterState) : x.sample.toInt = x.sampleValue := by
  have hlow : -32768 ≤ x.sampleValue := le_min (le_max_right _ _) (by decide)
  have hhigh : x.sampleValue ≤ 32767 := min_le_right _ _
  exact BitVec.toInt_ofInt_eq_self (by decide) (by omega) (by omega)

/-- Settles O26: the word is the sample's. -/
theorem outputReturnsTheClippedSample : Obligations.OutputReturnsTheClippedSample :=
  fun s => ⟨s.ext.sample, s.ext.toInt_sample, rfl⟩

end Sys2Proof.Machine
end

section
/-! A substep (45_sid_top.md R163): the three generators after their clock, then after hard sync, whatever the order of
the calls within either loop. -/

namespace Sys2Proof.Machine

open Sys2Proof.Claims

/-! ### A run of `WaveClock` calls -/

section clocks

variable (n : Nat)

theorem State.wave_waveClock (s : State) (u v : VoiceId) :
    (s.waveClock u n).wave v = if v = u then (s.wave v).clock n else s.wave v := by
  rw [State.waveClock, State.wave_setWave]
  split
  · next h => rw [h]
  · rfl

/-- Each voice is clocked by its own call only, so the order of the calls does not matter. -/
theorem State.wave_foldl_waveClock : ∀ {voices : List VoiceId}, voices.Nodup → ∀ (s : State) (v : VoiceId),
    (voices.foldl (fun t u => t.waveClock u n) s).wave v = if v ∈ voices then (s.wave v).clock n else s.wave v
  | [], _, _, _ => rfl
  | u :: voices, hnodup, s, v => by
    obtain ⟨hu, hrest⟩ := List.nodup_cons.mp hnodup
    rw [List.foldl_cons, State.wave_foldl_waveClock hrest, State.wave_waveClock]
    by_cases hv : v = u
    · simp [hv, hu]
    · simp [hv]

end clocks

/-! ### A run of `Synchronize` calls -/

/-- The source of the source of a voice is its destination (R10). -/
theorem source_add_two (v : VoiceId) : v + 2 + 2 = v + 1 := by
  revert v
  decide

/-- Every voice is the destination of its source (R10). -/
theorem source_add_one (v : VoiceId) : v + 2 + 1 = v := by
  revert v
  decide

theorem synced_of_fires {s : State} {v : VoiceId} (h : s.SyncFires (v + 2)) :
    synced s.wave v = { s.wave v with acc := 0 } := by
  rw [State.SyncFires, source_add_one, source_add_two] at h
  exact if_pos h

theorem synced_of_not_fires {s : State} {v : VoiceId} (h : ¬ s.SyncFires (v + 2)) : synced s.wave v = s.wave v := by
  rw [State.SyncFires, source_add_one, source_add_two] at h
  exact if_neg h

/-- The call of the source does to its destination what R96 says. -/
theorem State.wave_synchronize_source (s : State) (v : VoiceId) : (s.synchronize (v + 2)).wave v = synced s.wave v := by
  by_cases h : s.SyncFires (v + 2)
  · rw [State.synchronize_of_fires h, synced_of_fires h, source_add_one, State.zeroAcc, State.wave_setWave, if_pos rfl]
  · rw [State.synchronize_of_not_fires h, synced_of_not_fires h]

/-- The call of any other voice leaves a generator alone. -/
theorem State.wave_synchronize_of_ne (s : State) {u v : VoiceId} (h : v + 2 ≠ u) :
    (s.synchronize u).wave v = s.wave v := by
  have hdest : v ≠ syncDest u := by
    rintro rfl
    exact h (by rw [syncDest, add_right_comm, source_add_one])
  obtain hs | hs := s.synchronize_cases u
  · rw [hs]
  · rw [hs, State.wave_setWave, if_neg hdest]

/-- What a `Synchronize` call reads, no other call writes (R97). -/
theorem State.syncFires_synchronize (s : State) (u v : VoiceId) : (s.synchronize u).SyncFires v ↔ s.SyncFires v := by
  by_cases h : s.SyncFires u
  · rw [State.synchronize_of_fires h, State.syncFires_zeroAcc]
  · rw [State.synchronize_of_not_fires h]

theorem synced_synchronize_of_ne (s : State) {u v : VoiceId} (h : v + 2 ≠ u) :
    synced (s.synchronize u).wave v = synced s.wave v := by
  have hkeep := s.wave_synchronize_of_ne h
  have hsame := s.syncFires_synchronize u (v + 2)
  by_cases hfires : s.SyncFires (v + 2)
  · rw [synced_of_fires (hsame.mpr hfires), synced_of_fires hfires, hkeep]
  · rw [synced_of_not_fires (mt hsame.mp hfires), synced_of_not_fires hfires, hkeep]

/-- Each voice is synchronized by its source's call only, so the order of the calls does not matter. -/
theorem State.wave_foldl_synchronize : ∀ {voices : List VoiceId}, voices.Nodup → ∀ (s : State) (v : VoiceId),
    (voices.foldl State.synchronize s).wave v = if v + 2 ∈ voices then synced s.wave v else s.wave v
  | [], _, _, _ => rfl
  | u :: voices, hnodup, s, v => by
    obtain ⟨hu, hrest⟩ := List.nodup_cons.mp hnodup
    rw [List.foldl_cons, State.wave_foldl_synchronize hrest]
    by_cases hv : v + 2 = u
    · subst hv
      rw [if_neg hu, if_pos List.mem_cons_self, State.wave_synchronize_source]
    · simp only [List.mem_cons, hv, false_or, synced_synchronize_of_ne s hv, State.wave_synchronize_of_ne s hv]

/-! ### The substep -/

/-- The state `s` with the generators `w`. -/
def State.withWaves (s : State) (w : VoiceId → WaveState) : State :=
  { s with
    voice0 := { s.voice0 with wave := w 0 }
    voice1 := { s.voice1 with wave := w 1 }
    voice2 := { s.voice2 with wave := w 2 } }

/-- What the oscillator operations leave alone and the generators they give are the whole state. -/
theorem State.OscFrame.eq_withWaves {s t : State} (h : s.OscFrame t) {w : VoiceId → WaveState}
    (hw : ∀ v, t.wave v = w v) : t = s.withWaves w := by
  have hvoice (v : VoiceId) : t.voice v = { wave := w v, env := s.env v } := by rw [← hw v, ← h.envs v]; rfl
  refine State.ext_voices (fun v => (hvoice v).trans ?_) h.filter h.ext h.busValue h.busTtl h.pending h.returned
  match v with
  | 0 | 1 | 2 => rfl

theorem State.oscFrame_foldl {f : State → VoiceId → State} (hf : ∀ (s : State) (v : VoiceId), s.OscFrame (f s v)) :
    ∀ (voices : List VoiceId) (s : State), s.OscFrame (voices.foldl f s)
  | [], s => .refl s
  | v :: voices, s => (hf s v).trans (State.oscFrame_foldl hf voices (f s v))

/-- One call for each voice, in any order. -/
theorem nodup_and_mem_of_perm {voices : List VoiceId} (h : voices.Perm [0, 1, 2]) :
    voices.Nodup ∧ ∀ v, v ∈ voices := by
  have hall : ∀ v : VoiceId, v ∈ [0, 1, 2] := by decide
  exact ⟨h.nodup_iff.mpr (by decide), fun v => h.mem_iff.mpr (hall v)⟩

/-- The two loops of R163 with their calls in any order. -/
theorem State.foldl_synchronize_foldl_waveClock (s : State) (n : Nat) {clocks syncs : List VoiceId}
    (hclocks : clocks.Perm [0, 1, 2]) (hsyncs : syncs.Perm [0, 1, 2]) :
    syncs.foldl State.synchronize (clocks.foldl (fun t v => t.waveClock v n) s)
      = s.withWaves (synced fun v => (s.wave v).clock n) := by
  obtain ⟨hcnodup, hcall⟩ := nodup_and_mem_of_perm hclocks
  obtain ⟨hsnodup, hsall⟩ := nodup_and_mem_of_perm hsyncs
  have hclocked : (clocks.foldl (fun t v => t.waveClock v n) s).wave = fun v => (s.wave v).clock n := by
    funext v
    rw [State.wave_foldl_waveClock n hcnodup, if_pos (hcall v)]
  have hframe := (State.oscFrame_foldl (fun (t : State) v => t.oscFrame_waveClock v n) clocks s).trans
    (State.oscFrame_foldl State.oscFrame_synchronize syncs _)
  refine hframe.eq_withWaves fun v => ?_
  rw [State.wave_foldl_synchronize hsnodup, if_pos (hsall _), hclocked]

theorem State.substep_eq_withWaves (s : State) (n : Nat) :
    s.substep n = s.withWaves (synced fun v => (s.wave v).clock n) :=
  s.foldl_synchronize_foldl_waveClock n (.refl _) (.refl _)

/-- Settles O60: the substep's own order of calls, and every other one. -/
theorem substepClocksThenSynchronizes : Obligations.SubstepClocksThenSynchronizes :=
  fun s n => ⟨s.substep_eq_withWaves n, fun _ _ => s.foldl_synchronize_foldl_waveClock n⟩

@[simp] theorem State.wave_withWaves (s : State) (w : VoiceId → WaveState) (v : VoiceId) :
    (s.withWaves w).wave v = w v := by
  match v with
  | 0 | 1 | 2 => rfl

/-- The generators after a substep. -/
theorem State.wave_substep (s : State) (n : Nat) : (s.substep n).wave = synced fun v => (s.wave v).clock n := by
  funext v
  rw [s.substep_eq_withWaves, State.wave_withWaves]

end Sys2Proof.Machine
end

section
/-! The oscillator loop (45_sid_top.md R162): its spans, turn by turn. -/

namespace Sys2Proof.Machine

open Sys2Proof.Claims

/-! ### The next flip of bit 23 -/

/-- The edge is the end of the half of the phase the accumulator is in. -/
theorem WaveState.toNat_acc_add_edge (w : WaveState) :
    w.acc.toNat + w.edge = (w.acc.toNat / 0x800000 + 1) * 0x800000 := by
  have hacc := w.acc.isLt
  rw [WaveState.edge, getLsbD_23_eq]
  simp only [decide_eq_true_eq]
  split <;> omega

/-- Short of the edge, bit 23 stays. -/
theorem WaveState.half_eq_of_lt_edge {w : WaveState} {n : Nat} (h : n * w.freq.toNat < w.edge) :
    (w.acc.toNat + n * w.freq.toNat) / 0x800000 = w.acc.toNat / 0x800000 := by
  have hedge := w.toNat_acc_add_edge
  omega

/-- The bound of R162 ends just past the edge: a step of the accumulator is shorter than the other half. -/
theorem ceilDiv_edge_flips {w : WaveState} (hfreq : 0 < w.freq.toNat) :
    (w.acc.toNat + ceilDiv w.edge w.freq.toNat * w.freq.toNat) / 0x800000 = w.acc.toNat / 0x800000 + 1 := by
  have hedge := w.toNat_acc_add_edge
  have hpos := w.edge_pos
  have hlt := w.freq.isLt
  have hreach : w.edge ≤ ceilDiv w.edge w.freq.toNat * w.freq.toNat := (ceilDiv_le_iff hfreq).mp le_rfl
  have hshort : ceilDiv w.edge w.freq.toNat * w.freq.toNat ≤ w.edge + w.freq.toNat - 1 := Nat.div_mul_le_self _ _
  omega

/-! ### The bounds of a span -/

section span

variable (s : State)

theorem State.boundSpan_of_driver {i : VoiceId} (h : SyncDriver s i) (n : Nat) :
    s.boundSpan i n = min n (ceilDiv (s.wave i).edge (s.wave i).freq.toNat) := if_pos h

theorem State.boundSpan_of_not_driver {i : VoiceId} (h : ¬ SyncDriver s i) (n : Nat) : s.boundSpan i n = n := if_neg h

/-- A bound that shortens the span is that of a driver. -/
theorem State.boundSpan_cases (i : VoiceId) (n : Nat) :
    s.boundSpan i n = n
    ∨ SyncDriver s i ∧ s.boundSpan i n = ceilDiv (s.wave i).edge (s.wave i).freq.toNat := by
  by_cases h : SyncDriver s i
  · rw [s.boundSpan_of_driver h]
    exact (min_choice _ _).imp_right fun hmin => ⟨h, hmin⟩
  · exact .inl (s.boundSpan_of_not_driver h n)

/-- Every driver bounds the span. -/
theorem State.oscSpan_le_of_driver {i : VoiceId} (h : SyncDriver s i) (dt : Nat) :
    s.oscSpan dt ≤ ceilDiv (s.wave i).edge (s.wave i).freq.toNat := by
  have hown (n : Nat) : s.boundSpan i n ≤ ceilDiv (s.wave i).edge (s.wave i).freq.toNat := by
    rw [s.boundSpan_of_driver h]
    exact min_le_right _ _
  match i with
  | 0 => exact ((s.boundSpan_le 2 _).trans (s.boundSpan_le 1 _)).trans (hown _)
  | 1 => exact (s.boundSpan_le 2 _).trans (hown _)
  | 2 => exact hown _

/-- A span is all the cycles left, or some driver's bound. -/
theorem State.oscSpan_cases (dt : Nat) :
    s.oscSpan dt = dt
    ∨ ∃ i, SyncDriver s i ∧ s.oscSpan dt = ceilDiv (s.wave i).edge (s.wave i).freq.toNat := by
  unfold State.oscSpan
  obtain h2 | h2 := s.boundSpan_cases 2 (s.boundSpan 1 (s.boundSpan 0 dt))
  · obtain h1 | h1 := s.boundSpan_cases 1 (s.boundSpan 0 dt)
    · rw [h2, h1]
      exact (s.boundSpan_cases 0 dt).imp_right fun h0 => ⟨0, h0⟩
    · rw [h2]
      exact .inr ⟨1, h1⟩
  · exact .inr ⟨2, h2⟩

theorem State.freq_pos_of_driver {i : VoiceId} (h : SyncDriver s i) : 0 < (s.wave i).freq.toNat := by
  obtain ⟨_, hfreq⟩ := h
  exact Nat.pos_of_ne_zero fun h0 => hfreq (BitVec.eq_of_toNat_eq h0)

/-- Inside a span no driver flips bit 23. -/
theorem State.half_eq_of_lt_oscSpan {i : VoiceId} (h : SyncDriver s i) {n dt : Nat} (hn : n < s.oscSpan dt) :
    ((s.wave i).acc.toNat + n * (s.wave i).freq.toNat) / 0x800000 = (s.wave i).acc.toNat / 0x800000 := by
  have hbound : n < ceilDiv (s.wave i).edge (s.wave i).freq.toNat := hn.trans_le (s.oscSpan_le_of_driver h dt)
  refine WaveState.half_eq_of_lt_edge (not_le.mp fun hreach => ?_)
  exact absurd ((ceilDiv_le_iff (s.freq_pos_of_driver h)).mpr hreach) (not_le.mpr hbound)

/-- A span that ends early ends where a driver flips bit 23. -/
theorem State.flips_of_oscSpan_lt {dt : Nat} (h : s.oscSpan dt < dt) :
    ∃ i, SyncDriver s i ∧ ((s.wave i).acc.toNat + s.oscSpan dt * (s.wave i).freq.toNat) / 0x800000
      = (s.wave i).acc.toNat / 0x800000 + 1 := by
  obtain hall | ⟨i, hdriver, hspan⟩ := s.oscSpan_cases dt
  · omega
  · exact ⟨i, hdriver, hspan ▸ ceilDiv_edge_flips (s.freq_pos_of_driver hdriver)⟩

end span

/-! ### One turn of the loop -/

/-- Every turn takes a cycle, so any fuel that covers the cycles left is enough. -/
theorem State.oscLoop_go_fuel : ∀ (f g : Nat) {dt : Nat} (s : State), dt ≤ f → dt ≤ g →
    State.oscLoop.go f dt s = State.oscLoop.go g dt s
  | 0, 0, _, _, _, _ => rfl
  | 0, g + 1, dt, s, hf, _ => by rw [State.oscLoop.go, State.oscLoop.go, if_pos (Nat.le_zero.mp hf)]
  | f + 1, 0, dt, s, _, hg => by rw [State.oscLoop.go, State.oscLoop.go, if_pos (Nat.le_zero.mp hg)]
  | f + 1, g + 1, dt, s, hf, hg => by
    unfold State.oscLoop.go
    split
    · rfl
    · next hne =>
      have hspan := (s.oscSpan_bounds (Nat.pos_of_ne_zero hne)).left
      exact State.oscLoop_go_fuel f g _ (by omega) (by omega)

theorem State.oscLoop_pos (s : State) {dt : Nat} (h : 0 < dt) :
    s.oscLoop dt = (s.substep (s.oscSpan dt)).oscLoop (dt - s.oscSpan dt) := by
  obtain ⟨n, rfl⟩ : ∃ n, dt = n + 1 := ⟨dt - 1, by omega⟩
  have hspan := (s.oscSpan_bounds h).left
  rw [State.oscLoop, State.oscLoop.go, if_neg h.ne', State.oscLoop]
  exact State.oscLoop_go_fuel _ _ _ (by omega) le_rfl

/-- Settles O32: the bounds of a span, what happens inside it and at its end, and the turn it is. -/
theorem oscillatorSpansEndAtSyncEdges : Obligations.OscillatorSpansEndAtSyncEdges := by
  intro s dt hdt
  obtain ⟨hpos, hle⟩ := s.oscSpan_bounds hdt
  exact ⟨hpos, hle, fun i hdriver n => s.half_eq_of_lt_oscSpan hdriver, s.flips_of_oscSpan_lt, s.oscLoop_pos hdt⟩

end Sys2Proof.Machine
end

section
/-! A clock operation of the whole block (45_sid_top.md R159 to R165): what each of its stages reads and leaves, the life
of a byte on the bus, and the split of a span for the envelopes and the bus. -/

namespace Sys2Proof.Machine

open Sys2Proof.Claims

/-! ### The oscillator loop reads and writes the generators alone -/

theorem State.boundSpan_congr {s t : State} (h : s.wave = t.wave) (i : VoiceId) (n : Nat) :
    s.boundSpan i n = t.boundSpan i n := by
  unfold State.boundSpan
  rw [h]

theorem State.oscSpan_congr {s t : State} (h : s.wave = t.wave) (dt : Nat) : s.oscSpan dt = t.oscSpan dt := by
  simp only [State.oscSpan, State.boundSpan_congr h]

theorem State.wave_oscLoop_congr (dt : Nat) {s t : State} (h : s.wave = t.wave) :
    (s.oscLoop dt).wave = (t.oscLoop dt).wave := by
  induction dt using Nat.strong_induction_on generalizing s t with
  | _ dt ih =>
    obtain rfl | hdt := Nat.eq_zero_or_pos dt
    · exact h
    · obtain ⟨hpos, _⟩ := s.oscSpan_bounds hdt
      rw [s.oscLoop_pos hdt, t.oscLoop_pos hdt, ← State.oscSpan_congr h]
      exact ih _ (by omega) (by rw [State.wave_substep, State.wave_substep, h])

/-! ### The stages of a clock -/

/-- The voice outputs read the generators and the envelopes (42_voice.md R120). -/
theorem State.voiceOut_congr (p : Params) {s t : State} (hwave : ∀ v, s.wave v = t.wave v)
    (henv : ∀ v, s.env v = t.env v) (v : VoiceId) : s.voiceOut p v = t.voiceOut p v := by
  simp only [State.voiceOut, State.out, hwave, henv]

/-- The block between the oscillator loop and the filters (R160 to R162). -/
def State.beforeFilters (s : State) (dt : Nat) : State := ((s.busAge dt).envClockAll dt).oscLoop dt

section clock

variable (p : Params) (s : State)

theorem State.clock_eq_stages {dt : Nat} (h : 0 < dt) :
    s.clock p dt = ((s.beforeFilters dt).filterStage p dt).extStage p dt := s.clock_pos p h

theorem State.wave_beforeFilters (dt : Nat) : (s.beforeFilters dt).wave = (s.oscLoop dt).wave := by
  obtain ⟨_, hwave, _⟩ := (s.busAge dt).envClockAll_spec dt
  exact State.wave_oscLoop_congr dt (funext fun v => (hwave v).trans (s.wave_busAge v dt))

/-- The stages before the filters leave the filters and the host's lists alone. -/
theorem State.frame_beforeFilters (dt : Nat) :
    (s.beforeFilters dt).filter = s.filter ∧ (s.beforeFilters dt).ext = s.ext
      ∧ (s.beforeFilters dt).pending = s.pending ∧ (s.beforeFilters dt).returned = s.returned := by
  have hosc := ((s.busAge dt).envClockAll dt).oscFrame_oscLoop dt
  obtain ⟨_, _, hfilter, hext, _, _, hpending, hreturned⟩ := (s.busAge dt).envClockAll_spec dt
  have hage : (s.busAge dt).filter = s.filter ∧ (s.busAge dt).ext = s.ext ∧ (s.busAge dt).pending = s.pending
      ∧ (s.busAge dt).returned = s.returned := by
    obtain ⟨_, h⟩ | ⟨_, h⟩ := s.busAge_cases dt <;> rw [h] <;> exact ⟨rfl, rfl, rfl, rfl⟩
  obtain ⟨hfilter', hext', hpending', hreturned'⟩ := hage
  exact ⟨(hosc.filter.trans hfilter).trans hfilter', (hosc.ext.trans hext).trans hext',
    (hosc.pending.trans hpending).trans hpending', (hosc.returned.trans hreturned).trans hreturned'⟩

variable {dt : Nat} (hdt : 0 < dt)

include hdt

/-- The generators see the oscillator loop only. -/
theorem State.wave_clock : (s.clock p dt).wave = (s.oscLoop dt).wave := by
  rw [s.clock_eq_stages p hdt, ← s.wave_beforeFilters]
  rfl

/-- The filter is clocked once, on the voice outputs of the end of the operation (R164). -/
theorem State.filter_clock :
    (s.clock p dt).filter = s.filter.clock p dt ((s.clock p dt).voiceOut p 0) ((s.clock p dt).voiceOut p 1)
      ((s.clock p dt).voiceOut p 2) p.extIn := by
  obtain ⟨hfilter, _⟩ := s.frame_beforeFilters dt
  have hvoice (v : VoiceId) : (s.clock p dt).voiceOut p v = (s.beforeFilters dt).voiceOut p v := by
    rw [s.clock_eq_stages p hdt]
    exact State.voiceOut_congr p (fun _ => rfl) (fun _ => rfl) v
  rw [hvoice, hvoice, hvoice, ← hfilter, s.clock_eq_stages p hdt]
  rfl

/-- The external filter is clocked once, on the filter's output after its clock (R165). -/
theorem State.ext_clock : (s.clock p dt).ext = s.ext.clock p dt ((s.clock p dt).filter.out p) := by
  obtain ⟨_, hext, _⟩ := s.frame_beforeFilters dt
  rw [← hext, s.clock_eq_stages p hdt]
  rfl

/-- A clock neither takes a word nor returns a value (R192). -/
theorem State.lists_clock :
    (s.clock p dt).pending = s.pending ∧ (s.clock p dt).returned = s.returned := by
  obtain ⟨_, _, hlists⟩ := s.frame_beforeFilters dt
  rw [s.clock_eq_stages p hdt]
  exact hlists

end clock

/-- Bus aging field by field (R160). -/
theorem State.bus_busAge (s : State) (dt : Nat) :
    (s.busAge dt).busTtl = (if s.busTtl - dt ≤ 0 then 0 else s.busTtl - dt)
      ∧ (s.busAge dt).busValue = (if s.busTtl - dt ≤ 0 then 0 else s.busValue) := by
  obtain ⟨hover, h⟩ | ⟨hleft, h⟩ := s.busAge_cases dt
  · rw [h, if_pos hover, if_pos hover]
    exact ⟨rfl, rfl⟩
  · rw [h, if_neg hleft.not_ge, if_neg hleft.not_ge]
    exact ⟨rfl, rfl⟩

/-- Settles O30: a clock of no cycle is the identity, any other one is its stages. -/
theorem clockRunsItsStepsInOrder : Obligations.ClockRunsItsStepsInOrder := by
  intro dt s
  refine ⟨s.clock params dt, rfl, fun h => ?zero, fun h => ?pos⟩
  case zero => rw [h, State.clock_zero]
  case pos =>
    obtain ⟨hvalue, httl⟩ := s.bus_clock params h
    obtain ⟨hageTtl, hageValue⟩ := s.bus_busAge dt
    exact ⟨httl.trans hageTtl, hvalue.trans hageValue, s.env_clock params h,
      fun v => congrFun (s.wave_clock params h) v, s.filter_clock params h, s.ext_clock params h,
      s.lists_clock params h⟩

/-! ### A byte on the bus -/

/-- Every write latches its byte, whichever the offset (R151). -/
theorem State.bus_regWrite (p : Params) (s : State) (off : Offset) (d : Byte) :
    (s.regWrite p off d).busValue = d ∧ (s.regWrite p off d).busTtl = p.busTtl := by
  unfold State.regWrite
  dsimp only
  split
  · split <;> exact ⟨rfl, rfl⟩
  · split <;> exact ⟨rfl, rfl⟩

/-- A clock of any length ages the bus, where a byte whose time is over is already cleared. -/
theorem State.bus_clock_of_busLegal (p : Params) {s : State} (h : s.BusLegal) (dt : Nat) :
    (s.clock p dt).busTtl = (if s.busTtl - dt ≤ 0 then 0 else s.busTtl - dt)
      ∧ (s.clock p dt).busValue = (if s.busTtl - dt ≤ 0 then 0 else s.busValue) := by
  obtain rfl | hdt := Nat.eq_zero_or_pos dt
  · obtain ⟨hnonneg, _, hover⟩ := h
    rw [State.clock_zero, Nat.cast_zero, sub_zero]
    split
    · next hle =>
      have h0 : s.busTtl = 0 := le_antisymm hle hnonneg
      exact ⟨h0, hover h0⟩
    · exact ⟨rfl, rfl⟩
  · obtain ⟨hvalue, httl⟩ := s.bus_clock p hdt
    rw [hvalue, httl]
    exact s.bus_busAge dt

/-- Settles O31: the write latches the byte with its full time, and the clock lets that time run down. -/
theorem busByteLivesForItsTime : Obligations.BusByteLivesForItsTime := by
  intro off d i dt s t u hdecode hwrite hclock
  obtain rfl : decodeWrite off d = i := Except.ok.inj ((decode_writeWord off d).symm.trans hdecode)
  obtain rfl : s.regWrite params off d = t :=
    Host.Outcome.next.inj ((exec_decodeWrite off d s).symm.trans hwrite)
  obtain rfl : (s.regWrite params off d).clock params dt = u := Host.Outcome.next.inj hclock
  obtain ⟨hvalue, httl⟩ := s.bus_regWrite params off d
  have hfull : (s.regWrite params off d).busTtl = 0x2000 := httl
  have hlegal : (s.regWrite params off d).BusLegal :=
    State.busLegal_congr (s := s.busLatch params d) hvalue httl (s.busLegal_busLatch d)
  obtain ⟨_, haged⟩ := State.bus_clock_of_busLegal params hlegal dt
  rw [haged, hvalue, hfull, ← ite_not]
  exact if_congr (by omega) rfl rfl

/-! ### Splits of a span -/

/-- An envelope sees its own clock, also over no cycle. -/
theorem State.env_clock_of_legal (p : Params) {s : State} {v : VoiceId} (h : (s.env v).Legal) (dt : Nat) :
    (s.clock p dt).env v = (s.env v).clock dt := by
  obtain rfl | hdt := Nat.eq_zero_or_pos dt
  · rw [State.clock_zero, EnvState.clock_zero h]
  · exact s.env_clock p hdt v

theorem State.env_clock_clock (p : Params) {s : State} {v : VoiceId} (h : (s.env v).Legal) (a b : Nat) :
    ((s.clock p a).clock p b).env v = (s.clock p (a + b)).env v := by
  have hmid : (s.clock p a).env v = (s.env v).clock a := State.env_clock_of_legal p h a
  have hmid_legal : ((s.clock p a).env v).Legal := hmid ▸ EnvState.legal_clock a h
  calc ((s.clock p a).clock p b).env v
    _ = ((s.env v).clock a).clock b := by rw [State.env_clock_of_legal p hmid_legal, hmid]
    _ = (s.env v).clock (a + b) := EnvState.clock_clock a b h
    _ = (s.clock p (a + b)).env v := (State.env_clock_of_legal p h (a + b)).symm

/-- What is left of a byte's time after two clocks is what is left after one of both lengths. -/
theorem State.bus_clock_clock {s : State} (h : s.BusLegal) (a b : Nat) :
    ((s.clock params a).clock params b).busValue = (s.clock params (a + b)).busValue
      ∧ ((s.clock params a).clock params b).busTtl = (s.clock params (a + b)).busTtl := by
  have hmid : (s.clock params a).BusLegal := Effect.busLegal (.clock a rfl) h
  obtain ⟨httlA, hvalueA⟩ := State.bus_clock_of_busLegal params h a
  obtain ⟨httlB, hvalueB⟩ := State.bus_clock_of_busLegal params hmid b
  obtain ⟨httl, hvalue⟩ := State.bus_clock_of_busLegal params h (a + b)
  rw [hvalueB, httlB, hvalueA, httlA, hvalue, httl]
  by_cases hover : s.busTtl - a ≤ 0
  · have hboth : s.busTtl - (a + b : Nat) ≤ 0 := by omega
    have hzero : (0 : Int) - b ≤ 0 := by omega
    simp only [if_pos hover, if_pos hboth, if_pos hzero, and_self]
  · simp only [if_neg hover, Nat.cast_add, sub_sub, and_self]

/-- Settles O46: the envelopes one by one, then the bus. -/
theorem clockSplitsKeepEnvelopesAndBus : Obligations.ClockSplitsKeepEnvelopesAndBus := by
  intro a b s t u x hlegal hA hB hAB
  obtain rfl : s.clock params a = t := Host.Outcome.next.inj hA
  obtain rfl : (s.clock params a).clock params b = u := Host.Outcome.next.inj hB
  obtain rfl : s.clock params (a + b) = x := Host.Outcome.next.inj hAB
  obtain ⟨hvoices, hbus⟩ := s.legal_iff.mp hlegal
  exact ⟨fun v => State.env_clock_clock params (hvoices v).right a b, State.bus_clock_clock hbus a b⟩

end Sys2Proof.Machine
end

section
/-! CLK as single cycles (45_sid_top.md R162, R163, R167). Within a span of the oscillator loop no sync source flips
bit 23, so no cycle but the last one can synchronize, and at the last one a sync source's rise latch is the same whether
it was clocked by the span or by cycles. The two runs therefore differ in the latches of other voices at most, and what
follows does not read those, unless the test bit holds one (R98). -/

namespace Sys2Proof.Machine

open Sys2Proof.Claims

/-! ### A generator up to its rise latch -/

/-- The generator with its rise latch cleared: two generators with the same one differ in the latch at most. -/
def WaveState.unlatched (w : WaveState) : WaveState := { w with msbRising := false }

theorem WaveState.fields_of_unlatched_eq {w x : WaveState} (h : w.unlatched = x.unlatched) :
    w.acc = x.acc ∧ w.shift = x.shift ∧ w.sync = x.sync :=
  ⟨show w.unlatched.acc = x.unlatched.acc by rw [h], show w.unlatched.shift = x.unlatched.shift by rw [h],
    show w.unlatched.sync = x.unlatched.sync by rw [h]⟩

/-- The test bit holds no rise of an earlier span (R98). -/
def WaveState.Fresh (w : WaveState) : Prop := w.test = true → w.msbRising = false

theorem WaveState.Fresh.clock {w : WaveState} (h : w.Fresh) (n : Nat) : (w.clock n).Fresh := by
  intro htest
  rw [WaveState.test_clock] at htest
  rw [WaveState.clock_of_test htest]
  exact h htest

theorem fresh_synced {w : VoiceId → WaveState} (h : ∀ v, (w v).Fresh) (v : VoiceId) : (synced w v).Fresh := by
  unfold synced
  split <;> exact h v

/-- A clock reads the latch under test only, where it does nothing (R80). -/
theorem WaveState.Fresh.clock_unlatched {w : WaveState} (h : w.Fresh) (n : Nat) : w.unlatched.clock n = w.clock n := by
  cases htest : w.test with
  | true =>
    have hsame : w.unlatched = w := by rw [WaveState.unlatched, ← h htest]
    rw [hsame]
  | false => rw [WaveState.clock_of_not_test htest, WaveState.clock_of_not_test (w := w.unlatched) htest]; rfl

theorem WaveState.unlatched_clock_clock (w : WaveState) (a b : Nat) :
    ((w.clock a).clock b).unlatched = (w.clock (a + b)).unlatched :=
  calc ((w.clock a).clock b).unlatched
    _ = ({ (w.clock a).clock b with msbRising := w.msbRising } : WaveState).unlatched := rfl
    _ = ({ w.clock (a + b) with msbRising := w.msbRising } : WaveState).unlatched := by
      rw [oscillatorClockIsAdditive w a b]
    _ = (w.clock (a + b)).unlatched := rfl

theorem WaveState.unlatched_clock_zero (w : WaveState) : (w.clock 0).unlatched = w.unlatched := by
  cases htest : w.test with
  | true => rw [WaveState.clock_of_test htest]
  | false =>
    have hacc : (w.advance 0).acc = w.acc :=
      BitVec.eq_of_toNat_eq (by rw [w.toNat_acc_advance, Nat.zero_mul, Nat.add_zero, Nat.mod_eq_of_lt w.acc.isLt])
    have hnone : noiseClocks w.acc.toNat (0 * w.freq.toNat) = 0 := by rw [noiseClocks_eq, Nat.zero_mul]; omega
    have hshift : (w.advance 0).shift = w.shift := by rw [w.shift_advance, hnone, Function.iterate_zero_apply]
    rw [WaveState.clock_of_not_test htest]
    calc (w.advance 0).unlatched
      _ = { w.unlatched with acc := (w.advance 0).acc, shift := (w.advance 0).shift } := rfl
      _ = w.unlatched := by rw [hacc, hshift]; rfl

/-! ### The single cycle -/

theorem getLsbD_19_eq (x : BitVec 24) : x.getLsbD 19 = decide (x.toNat / 2 ^ 19 % 2 = 1) :=
  Nat.testBit_eq_decide_div_mod_eq

/-- A step of less than `2^20` passes at most one rise of bit 19, which the bit itself shows. -/
theorem noiseClocks_eq_ite {prev acc : BitVec 24} {dacc : Nat} (hlt : dacc < 2 ^ 16)
    (hacc : acc.toNat = (prev.toNat + dacc) % 2 ^ 24) :
    noiseClocks prev.toNat dacc = if !prev.getLsbD 19 && acc.getLsbD 19 then 1 else 0 := by
  have hprev := prev.isLt
  simp only [noiseClocks_eq, getLsbD_19_eq, Bool.and_eq_true, Bool.not_eq_true', decide_eq_false_iff_not,
    decide_eq_true_eq]
  split <;> omega

/-- The single cycle of the claim is a clock of one cycle. -/
theorem waveCycle_eq_clock_one (w : WaveState) : waveCycle w = w.clock 1 := by
  cases htest : w.test with
  | true => rw [WaveState.clock_of_test htest, waveCycle, if_pos htest]
  | false =>
    have hfreq : 1 * w.freq.toNat < 2 ^ 16 := by omega
    have hacc : (w.advance 1).acc = w.acc + w.freq.setWidth 24 :=
      BitVec.eq_of_toNat_eq (by
        rw [w.toNat_acc_advance, BitVec.toNat_add, BitVec.toNat_setWidth_of_le (by decide), Nat.one_mul])
    have hshift : (w.advance 1).shift
        = if !w.acc.getLsbD 19 && (w.advance 1).acc.getLsbD 19 then lfsr w.shift else w.shift := by
      rw [w.shift_advance, noiseClocks_eq_ite hfreq (w.toNat_acc_advance 1)]
      split <;> rfl
    rw [hacc] at hshift
    rw [WaveState.clock_of_not_test htest, waveCycle, if_neg (ne_true_of_eq_false htest)]
    calc ({ w with
          acc := w.acc + w.freq.setWidth 24
          msbRising := !w.acc.getLsbD 23 && (w.acc + w.freq.setWidth 24).getLsbD 23
          shift := if !w.acc.getLsbD 19 && (w.acc + w.freq.setWidth 24).getLsbD 19 then lfsr w.shift
            else w.shift } : WaveState)
      _ = { w with
            acc := (w.advance 1).acc
            msbRising := msbRises w.acc (w.advance 1).acc
            shift := (w.advance 1).shift } := by rw [hacc, hshift]; rfl
      _ = w.advance 1 := rfl

theorem oscillatorCycle_eq (w : VoiceId → WaveState) : oscillatorCycle w = synced fun v => (w v).clock 1 :=
  congrArg synced (funext fun v => waveCycle_eq_clock_one (w v))

theorem fresh_iterate_oscillatorCycle (n : Nat) {w : VoiceId → WaveState} (h : ∀ v, (w v).Fresh) :
    ∀ v, (oscillatorCycle^[n] w v).Fresh := by
  induction n generalizing w with
  | zero => exact h
  | succ n ih =>
    rw [Function.iterate_succ_apply, oscillatorCycle_eq]
    exact ih (fresh_synced fun v => (h v).clock 1)

/-- Generators that differ in their latches only go on alike. -/
theorem oscillatorCycle_congr {w x : VoiceId → WaveState} (hw : ∀ v, (w v).Fresh) (hx : ∀ v, (x v).Fresh)
    (h : ∀ v, (w v).unlatched = (x v).unlatched) : oscillatorCycle w = oscillatorCycle x := by
  rw [oscillatorCycle_eq, oscillatorCycle_eq]
  congr 1
  funext v
  rw [← (hw v).clock_unlatched, h v, (hx v).clock_unlatched]

theorem unlatched_iterate_congr (n : Nat) {w x : VoiceId → WaveState} (hw : ∀ v, (w v).Fresh)
    (hx : ∀ v, (x v).Fresh) (h : ∀ v, (w v).unlatched = (x v).unlatched) (v : VoiceId) :
    (oscillatorCycle^[n] w v).unlatched = (oscillatorCycle^[n] x v).unlatched := by
  cases n with
  | zero => exact h v
  | succ n => rw [Function.iterate_succ_apply, Function.iterate_succ_apply, oscillatorCycle_congr hw hx h]

/-! ### Hard sync reads the latches of sync sources only -/

theorem synced_eq_self {w : VoiceId → WaveState} (h : ∀ v, (w (v + 1)).sync = true → (w v).msbRising = false)
    (v : VoiceId) : synced w v = w v := by
  refine if_neg ?_
  rintro ⟨hrise, hsync, _⟩
  have hquiet := h (v + 2) (by rwa [source_add_one])
  rw [hrise] at hquiet
  cases hquiet

theorem unlatched_synced_congr {w x : VoiceId → WaveState} (h : ∀ v, (w v).unlatched = (x v).unlatched)
    (hlatch : ∀ v, (w (v + 1)).sync = true → (w v).msbRising = (x v).msbRising) (v : VoiceId) :
    (synced w v).unlatched = (synced x v).unlatched := by
  have hsync (u : VoiceId) : (w u).sync = (x u).sync := by
    obtain ⟨_, _, hsync⟩ := WaveState.fields_of_unlatched_eq (h u)
    exact hsync
  have hsource : (w v).sync = true → (w (v + 2)).msbRising = (x (v + 2)).msbRising := by
    have := hlatch (v + 2)
    rwa [source_add_one] at this
  have hsourceSource : (w (v + 2)).sync = true → (w (v + 1)).msbRising = (x (v + 1)).msbRising := by
    have := hlatch (v + 1)
    rwa [add_assoc] at this
  have hfires : ((w (v + 2)).msbRising = true ∧ (w v).sync = true
        ∧ ¬ ((w (v + 2)).sync = true ∧ (w (v + 1)).msbRising = true))
      ↔ ((x (v + 2)).msbRising = true ∧ (x v).sync = true
        ∧ ¬ ((x (v + 2)).sync = true ∧ (x (v + 1)).msbRising = true)) := by
    rw [← hsync v, ← hsync (v + 2), and_left_comm, and_left_comm (a := (x (v + 2)).msbRising = true)]
    exact and_congr_right fun hown => and_congr (by rw [hsource hown])
      (not_congr (and_congr_right fun hsrc => by rw [hsourceSource hsrc]))
  unfold synced
  by_cases hc : (w (v + 2)).msbRising = true ∧ (w v).sync = true
      ∧ ¬ ((w (v + 2)).sync = true ∧ (w (v + 1)).msbRising = true)
  · rw [if_pos hc, if_pos (hfires.mp hc)]
    exact congrArg (fun y : WaveState => { y with acc := 0 }) (h v)
  · rw [if_neg hc, if_neg (mt hfires.mpr hc), h v]

/-! ### A span of single cycles -/

/-- Short of `n` cycles the generator stays in its half of the phase. -/
def WaveState.KeepsHalf (w : WaveState) (n : Nat) : Prop :=
  ∀ m < n, (w.acc.toNat + m * w.freq.toNat) / 0x800000 = w.acc.toNat / 0x800000

section half

variable {w : WaveState} {n m : Nat} (hhalf : w.KeepsHalf n)

include hhalf

theorem WaveState.toNat_acc_advance_lt_iff (hm : m < n) : (w.advance m).acc.toNat < 2 ^ 23 ↔ w.acc.toNat < 2 ^ 23 := by
  have hsame := hhalf m hm
  have hacc := w.acc.isLt
  rw [w.toNat_acc_advance]
  omega

/-- Inside the span nothing rises. -/
theorem WaveState.msbRising_clock_of_lt (hfresh : w.Fresh) (hm : m < n) : (w.clock m).msbRising = false := by
  cases htest : w.test with
  | true => rw [WaveState.clock_of_test htest]; exact hfresh htest
  | false =>
    have hlt := WaveState.toNat_acc_advance_lt_iff hhalf hm
    rw [WaveState.clock_of_not_test htest, w.msbRising_advance, ← Bool.not_eq_true, msbRises_iff]
    omega

/-- The last cycle of the span sees the rise that the span as a whole sees. -/
theorem WaveState.msbRising_clock_clock_one (hm : m < n) :
    ((w.clock m).clock 1).msbRising = (w.clock (m + 1)).msbRising := by
  cases htest : w.test with
  | true => rw [WaveState.clock_of_test htest, WaveState.clock_of_test htest, WaveState.clock_of_test htest]
  | false =>
    have htest' : (w.advance m).test = false := htest
    have hlt := WaveState.toNat_acc_advance_lt_iff hhalf hm
    rw [WaveState.clock_of_not_test htest, WaveState.clock_of_not_test htest', WaveState.clock_of_not_test htest,
      WaveState.msbRising_advance, WaveState.msbRising_advance, w.acc_advance_advance, Bool.eq_iff_iff,
      msbRises_iff, msbRises_iff, hlt]

end half

section span

variable {w : VoiceId → WaveState} {n : Nat} (hhalf : ∀ v, (w (v + 1)).sync = true → (w v).KeepsHalf n)

include hhalf

/-- The cycle after `m` cycles without a reset is the hard sync of a clock of `m + 1`. -/
theorem unlatched_oscillatorCycle_clock {m : Nat} (hm : m < n) (v : VoiceId) :
    (oscillatorCycle (fun u => (w u).clock m) v).unlatched
      = (synced (fun u => (w u).clock (m + 1)) v).unlatched := by
  rw [oscillatorCycle_eq]
  refine unlatched_synced_congr (fun u => (w u).unlatched_clock_clock m 1) (fun u hsync => ?_) v
  simp only [WaveState.sync_clock] at hsync
  exact WaveState.msbRising_clock_clock_one (hhalf u hsync) hm

variable (hfresh : ∀ v, (w v).Fresh)

include hfresh

/-- Before the end of the span the cycles only clock. -/
theorem unlatched_iterate_of_lt {m : Nat} (hm : m < n) (v : VoiceId) :
    (oscillatorCycle^[m] w v).unlatched = ((w v).clock m).unlatched := by
  induction m generalizing v with
  | zero => exact ((w v).unlatched_clock_zero).symm
  | succ m ih =>
    have hbefore := oscillatorCycle_congr (fresh_iterate_oscillatorCycle m hfresh) (fun u => (hfresh u).clock m)
      (ih (Nat.lt_of_succ_lt hm))
    have hquiet := synced_eq_self (w := fun u => (w u).clock (m + 1))
      (fun u hsync => WaveState.msbRising_clock_of_lt (hhalf u (by simpa using hsync)) (hfresh u) hm) v
    rw [Function.iterate_succ_apply', hbefore, unlatched_oscillatorCycle_clock hhalf (Nat.lt_of_succ_lt hm),
      hquiet]

/-- A whole span of cycles is one clock and one hard sync. -/
theorem unlatched_iterate_span (hn : 0 < n) (v : VoiceId) :
    (oscillatorCycle^[n] w v).unlatched = (synced (fun u => (w u).clock n) v).unlatched := by
  obtain ⟨m, rfl⟩ : ∃ m, n = m + 1 := ⟨n - 1, by omega⟩
  have hbefore := oscillatorCycle_congr (fresh_iterate_oscillatorCycle m hfresh) (fun u => (hfresh u).clock m)
    (unlatched_iterate_of_lt hhalf hfresh m.lt_succ_self)
  rw [Function.iterate_succ_apply', hbefore, unlatched_oscillatorCycle_clock hhalf m.lt_succ_self]

end span

/-! ### The loop -/

/-- Sync sources keep their half of the phase for a span: the moving ones bound it, the others do not move. -/
theorem State.keepsHalf_oscSpan (s : State) (dt : Nat) (v : VoiceId) (hsync : (s.wave (v + 1)).sync = true) :
    (s.wave v).KeepsHalf (s.oscSpan dt) := by
  intro m hm
  by_cases hfreq : (s.wave v).freq = 0
  · have hstill : (s.wave v).freq.toNat = 0 := congrArg BitVec.toNat hfreq
    rw [hstill, Nat.mul_zero, Nat.add_zero]
  · exact s.half_eq_of_lt_oscSpan ⟨hsync, hfreq⟩ hm

theorem State.unlatched_oscLoop (dt : Nat) {s : State} (hfresh : ∀ v, (s.wave v).Fresh) (v : VoiceId) :
    ((s.oscLoop dt).wave v).unlatched = (oscillatorCycle^[dt] s.wave v).unlatched := by
  induction dt using Nat.strong_induction_on generalizing s with
  | _ dt ih =>
    obtain rfl | hdt := Nat.eq_zero_or_pos dt
    · rfl
    obtain ⟨hpos, hle⟩ := s.oscSpan_bounds hdt
    have hfresh' : ∀ u, ((s.substep (s.oscSpan dt)).wave u).Fresh := by
      rw [s.wave_substep]
      exact fresh_synced fun u => (hfresh u).clock _
    have hspan (u : VoiceId) : ((s.substep (s.oscSpan dt)).wave u).unlatched
        = (oscillatorCycle^[s.oscSpan dt] s.wave u).unlatched := by
      rw [s.wave_substep, unlatched_iterate_span (s.keepsHalf_oscSpan dt) hfresh hpos]
    calc ((s.oscLoop dt).wave v).unlatched
      _ = (((s.substep (s.oscSpan dt)).oscLoop (dt - s.oscSpan dt)).wave v).unlatched := by rw [s.oscLoop_pos hdt]
      _ = (oscillatorCycle^[dt - s.oscSpan dt] (s.substep (s.oscSpan dt)).wave v).unlatched :=
        ih _ (by omega) hfresh'
      _ = (oscillatorCycle^[dt - s.oscSpan dt] (oscillatorCycle^[s.oscSpan dt] s.wave) v).unlatched :=
        unlatched_iterate_congr _ hfresh' (fresh_iterate_oscillatorCycle _ hfresh) hspan v
      _ = (oscillatorCycle^[dt] s.wave v).unlatched := by
        rw [← Function.iterate_add_apply, Nat.sub_add_cancel hle]

/-- Settles O38: a clock moves the generators as the oscillator loop does, and that as its single cycles, up to the
latches. -/
theorem oscillatorLoopEqualsCycleByCycle : Obligations.OscillatorLoopEqualsCycleByCycle := by
  intro dt s t hstale hexec v
  obtain rfl : s.clock params dt = t := Host.Outcome.next.inj hexec
  have hfresh (u : VoiceId) : (s.wave u).Fresh := fun htest => eq_false_of_ne_true fun hrise => hstale u ⟨htest, hrise⟩
  have hwave : (s.clock params dt).wave = (s.oscLoop dt).wave := by
    obtain rfl | hdt := Nat.eq_zero_or_pos dt
    · rfl
    · exact s.wave_clock params hdt
  obtain ⟨hacc, hshift, _⟩ := WaveState.fields_of_unlatched_eq (State.unlatched_oscLoop dt hfresh v)
  rw [hwave]
  exact ⟨hacc, hshift⟩

end Sys2Proof.Machine
end

section
/-! Reserved command words (30_encoding.md R59) and what a step does with them (60_exceptions.md R170, R171). -/

namespace Sys2Proof.Machine

open Sys2Proof.Claims

/-- Settles O57: every row of the dispatch goes on. -/
theorem everyOperationCompletes : Obligations.EveryOperationCompletes := fun i s => by
  obtain ⟨t, hexec, _⟩ := exec_next_effect i s
  exact ⟨t, hexec⟩

/-! ### The reserved words are those that do not decode -/

theorem not_reservedPattern_of_wordOf {w : CommandWord} {i : Instr} (h : WordOf w i) : ¬ ReservedPattern w.toNat := by
  unfold ReservedPattern
  cases h with
  | read off hw =>
    have hlt := off.isLt
    rw [hw, toNat_readWord]
    omega
  | write off d hw =>
    have hofflt := off.isLt
    have hdlt := d.isLt
    rw [hw, toNat_writeWord]
    omega
  | clock dt hw =>
    have hlt := dt.isLt
    rw [hw, toNat_clockWord]
    omega
  | reset hw =>
    rw [hw]
    decide
  | output hw =>
    rw [hw]
    decide

/-- Each branch in which the decoder rejects a word is one line of the list of R59. -/
theorem reservedPattern_of_decode_error {w : CommandWord} {why : ReservedWord} (h : decode w = .error why) :
    ReservedPattern w.toNat := by
  have hlt := w.isLt
  unfold decode at h
  simp only [w.toNat_format, w.bit13_eq, decide_eq_true_eq, w.toNat_argument] at h
  unfold ReservedPattern
  split at h
  · next hread =>
    split at h
    · next hbit => exact .inl ⟨hread, hbit⟩
    split at h
    · cases h
    next hlow =>
    have hlow' : w.toNat % 2 ^ 8 ≠ 0 := by
      rw [← w.toNat_lowByte]
      exact fun hzero => hlow (BitVec.eq_of_toNat_eq hzero)
    exact .inr (.inr (.inl ⟨hread, hlow'⟩))
  · next hwrite =>
    split at h
    · next hbit => exact .inr (.inl ⟨hwrite, hbit⟩)
    · cases h
  · cases h
  · next hread hwrite hclock =>
    simp only [imp_false] at hread hwrite hclock
    split at h
    · cases h
    · cases h
    · next hreset hout =>
      simp only [imp_false] at hreset hout
      exact .inr (.inr (.inr ⟨by omega, by omega⟩))

/-! ### A step on a pending word -/

theorem step_of_decode_error {s : State} {w : CommandWord} {rest : List CommandWord} {why : ReservedWord}
    (hpending : s.pending = w :: rest) (hdecode : decode w = .error why) : step s = .refused (.reserved w why) := by
  simp only [step, State.take_of_pending hpending, hdecode]

theorem exists_step_next_of_decode_ok {s : State} {w : CommandWord} {rest : List CommandWord} {i : Instr}
    (hpending : s.pending = w :: rest) (hdecode : decode w = .ok i) : ∃ t, step s = .next t := by
  rw [stepRunsTheDecodedInstruction s w rest i hpending hdecode]
  exact everyOperationCompletes i _

/-- Settles O4: the step refuses by the decoder, and the decoder rejects the words of R59. -/
theorem exactlyReservedWordsAreRefused : Obligations.ExactlyReservedWordsAreRefused := by
  intro s w rest hpending
  cases hdecode : decode w with
  | error why =>
    have hreserved : ReservedPattern w.toNat := reservedPattern_of_decode_error hdecode
    exact ⟨iff_of_true ⟨why, step_of_decode_error hpending hdecode⟩ hreserved, fun hfree => absurd hreserved hfree⟩
  | ok i =>
    have hfree : ¬ ReservedPattern w.toNat := not_reservedPattern_of_wordOf (decode_eq_ok_iff.mp hdecode)
    obtain ⟨t, hnext⟩ := exists_step_next_of_decode_ok hpending hdecode
    refine ⟨iff_of_false ?_ hfree, fun _ => ⟨i, t, rfl, hnext⟩⟩
    rintro ⟨why, hrefused⟩
    cases hnext.symm.trans hrefused

end Sys2Proof.Machine
end

section
/-! The envelope at its steps (41_envelope.md R103 to R105), legal or not: from a rate counter of 0, a span of whole
rate periods is so many steps, and what is left of it is an advance. -/

namespace Sys2Proof.Machine

open Sys2Proof.Claims

/-- An advance moves the rate counter alone (R104). -/
@[simp] theorem EnvState.level_advance (e : EnvState) (n : Nat) : (e.advance n).level = e.level := rfl

@[simp] theorem EnvState.state_advance (e : EnvState) (n : Nat) : (e.advance n).state = e.state := rfl

@[simp] theorem EnvState.holdZero_advance (e : EnvState) (n : Nat) : (e.advance n).holdZero = e.holdZero := rfl

/-- The rate counter is at its start, and the rate period is not 0. -/
def EnvState.Restarted (e : EnvState) : Prop := e.rateCounter = 0 ∧ 0 < e.ratePeriod

theorem ratePeriodOf_pos (n : BitVec 4) : 0 < ratePeriodOf n := by
  rw [← rate_eq_ratePeriodOf]
  exact rate_pos n

/-- A step keeps the rate period or takes the decay's (R105, R106). -/
theorem EnvState.Restarted.step {e : EnvState} (h : e.Restarted) : e.step.Restarted := by
  obtain ⟨_, hpos⟩ := h
  refine ⟨e.rateCounter_step, ?_⟩
  obtain ⟨_, _, hs⟩ | ⟨_, _, hs⟩ | ⟨_, _, hs⟩ := e.step_cases
  · rw [hs]; exact hpos
  · rw [hs]; exact hpos
  · rw [hs, EnvState.expPeriodUpdate_eq, EnvState.action_eq]
    dsimp only
    split
    · exact ratePeriodOf_pos _
    · exact hpos

theorem EnvState.Restarted.cyclesToStep {e : EnvState} (h : e.Restarted) : e.cyclesToStep = e.ratePeriod := by
  obtain ⟨hcounter, hpos⟩ := h
  rw [EnvState.cyclesToStep, hcounter, if_pos hpos, Nat.sub_zero]

/-- Every turn of the loop takes a cycle (log entry 11), as `EnvState.clock_go_fuel` has it for legal envelopes. -/
theorem EnvState.Restarted.clock_go_fuel : ∀ (f g : Nat) {n : Nat} {e : EnvState}, e.Restarted → n < f → n < g →
    EnvState.clock.go f n e.ratePeriod e = EnvState.clock.go g n e.ratePeriod e
  | f + 1, g + 1, n, e, h, hf, hg => by
    have ⟨_, hpos⟩ := h
    unfold EnvState.clock.go
    split
    · rfl
    · exact EnvState.Restarted.clock_go_fuel f g h.step (by omega) (by omega)

/-- The first rate period of a span is a step (R105). -/
theorem EnvState.Restarted.clock_add {e : EnvState} (h : e.Restarted) (n : Nat) :
    e.clock (e.ratePeriod + n) = e.step.clock n := by
  have ⟨_, hpos⟩ := h
  rw [EnvState.clock, h.cyclesToStep, EnvState.clock.go, if_neg (by omega), Nat.add_sub_cancel_left, EnvState.clock,
    h.step.cyclesToStep]
  exact EnvState.Restarted.clock_go_fuel _ _ h.step (by omega) (by omega)

theorem EnvState.Restarted.iterate_step {e : EnvState} (h : e.Restarted) (k : Nat) :
    (EnvState.step^[k] e).Restarted :=
  Function.Iterate.rec EnvState.Restarted h (fun _ he => he.step) k

section periods

variable {T : Nat}

/-- Spans of whole rate periods, while the rate period stays `T`. -/
theorem EnvState.Restarted.clock_mul_add : ∀ (k n : Nat) {e : EnvState}, e.Restarted →
    (∀ j < k, (EnvState.step^[j] e).ratePeriod = T) → e.clock (T * k + n) = (EnvState.step^[k] e).clock n
  | 0, n, e, _, _ => by rw [Nat.mul_zero, Nat.zero_add]; rfl
  | k + 1, n, e, h, hT => by
    have hfirst : e.ratePeriod = T := hT 0 k.succ_pos
    calc e.clock (T * (k + 1) + n)
      _ = e.clock (e.ratePeriod + (T * k + n)) := by rw [hfirst, Nat.mul_succ]; congr 1; omega
      _ = e.step.clock (T * k + n) := h.clock_add _
      _ = (EnvState.step^[k] e.step).clock n :=
        EnvState.Restarted.clock_mul_add k n h.step fun j hj => hT (j + 1) (Nat.succ_lt_succ hj)

variable {e : EnvState} (h : e.Restarted)

include h

/-- Inside a rate period of `T` the envelope is that of the last step, advanced. -/
theorem EnvState.Restarted.clock_eq_advance (n : Nat) (hpos : 0 < T)
    (hT : ∀ j ≤ n / T, (EnvState.step^[j] e).ratePeriod = T) :
    e.clock n = (EnvState.step^[n / T] e).advance (n % T) := by
  have hshort : n % T < (EnvState.step^[n / T] e).cyclesToStep := by
    rw [(h.iterate_step _).cyclesToStep, hT _ le_rfl]
    exact Nat.mod_lt n hpos
  calc e.clock n
    _ = e.clock (T * (n / T) + n % T) := by rw [Nat.div_add_mod]
    _ = (EnvState.step^[n / T] e).clock (n % T) :=
      EnvState.Restarted.clock_mul_add _ _ h fun j hj => hT j hj.le
    _ = (EnvState.step^[n / T] e).advance (n % T) := EnvState.clock_of_lt hshort

/-- At the end of `k + 1` rate periods of `T`; the period that the last step leaves may be another. -/
theorem EnvState.Restarted.clock_succ_mul (k : Nat) (hT : ∀ j ≤ k, (EnvState.step^[j] e).ratePeriod = T) :
    e.clock ((k + 1) * T) = (EnvState.step^[k] e).step.advance 0 := by
  have hlast := (h.iterate_step k).step
  have hshort : 0 < (EnvState.step^[k] e).step.cyclesToStep := hlast.cyclesToStep ▸ hlast.right
  calc e.clock ((k + 1) * T)
    _ = e.clock (T * (k + 1) + 0) := congrArg e.clock (Nat.mul_comm _ _)
    _ = (EnvState.step^[k + 1] e).clock 0 :=
      EnvState.Restarted.clock_mul_add _ _ h fun j hj => hT j (Nat.le_of_lt_succ hj)
    _ = (EnvState.step^[k] e).step.advance 0 := by
      rw [Function.iterate_succ_apply', EnvState.clock_of_lt hshort]

end periods

/-- The step of an envelope that acts and is not frozen, in the words of O40. -/
theorem EnvState.step_of_acts {e : EnvState} (hacts : e.state = .attack ∨ e.expCounter + 1 = e.expPeriod)
    (hfree : e.holdZero = false) :
    e.step = { e with
      rateCounter := 0
      expCounter := 0
      level := levelAfter e
      expPeriod := periodAfter (levelAfter e) e.expPeriod
      holdZero := decide (levelAfter e = 0)
      state := if e.state = .attack ∧ levelAfter e = 0xFF then .decaySustain else e.state
      ratePeriod := if e.state = .attack ∧ levelAfter e = 0xFF then ratePeriodOf e.decay else e.ratePeriod } := by
  obtain ⟨_, _, hstep⟩ := envelopeStepFollowsItsPhase e
  exact hstep ⟨hacts, hfree⟩

end Sys2Proof.Machine
end

section
/-! A full attack (41_envelope.md R106, 70_reset_and_hazards.md R203): every step is one level up, whatever the
exponential counter holds. -/

namespace Sys2Proof.Machine

open Sys2Proof.Claims

/-- An envelope of rate period `T` that has climbed `k` levels of its attack. -/
structure EnvState.Rises (T k : Nat) (e : EnvState) : Prop where
  state : e.state = .attack
  ratePeriod : e.ratePeriod = T
  level : e.level.toNat = k
  holdZero : e.holdZero = false

section attack

variable {T k : Nat} {e : EnvState}

theorem EnvState.Rises.toNat_levelAfter (h : e.Rises T k) (hk : k < 255) : (levelAfter e).toNat = k + 1 := by
  have hlevel := h.level
  rw [levelAfter, h.state]
  bv_omega

/-- Below level 0xFE a step climbs one level and stays in the attack. -/
theorem EnvState.Rises.step (h : e.Rises T k) (hk : k < 254) : e.step.Rises T (k + 1) := by
  have hlevel := h.toNat_levelAfter (by omega)
  have hstay : ¬ (e.state = .attack ∧ levelAfter e = 0xFF) := fun hend => by bv_omega
  have hnotzero : levelAfter e ≠ 0 := by bv_omega
  rw [EnvState.step_of_acts (.inl h.state) h.holdZero]
  exact ⟨(if_neg hstay).trans h.state, (if_neg hstay).trans h.ratePeriod, hlevel, decide_eq_false hnotzero⟩

/-- From level 0xFE a step reaches the top and ends the attack. -/
theorem EnvState.Rises.step_top (h : e.Rises T 254) : e.step.level = 0xFF ∧ e.step.state = .decaySustain := by
  have htop : levelAfter e = 0xFF := BitVec.eq_of_toNat_eq (h.toNat_levelAfter (by decide))
  rw [EnvState.step_of_acts (.inl h.state) h.holdZero]
  exact ⟨htop, if_pos ⟨h.state, htop⟩⟩

theorem EnvState.Rises.iterate_step (h : e.Rises T 0) : ∀ k < 255, (EnvState.step^[k] e).Rises T k
  | 0, _ => h
  | k + 1, hk => by
    rw [Function.iterate_succ_apply']
    exact (h.iterate_step k (by omega)).step (by omega)

end attack

/-- Settles O44: `k < 255` steps climb `k` levels, and the 255th ends the attack at the top. -/
theorem fullAttackTakesItsCycles : Obligations.FullAttackTakesItsCycles := by
  intro e hstate hcounter hlevel hfree hperiod
  have hpos := ratePeriodOf_pos e.attack
  generalize ratePeriodOf e.attack = T at hperiod hpos ⊢
  have hrises : ∀ k < 255, (EnvState.step^[k] e).Rises T k :=
    EnvState.Rises.iterate_step ⟨hstate, hperiod, by rw [hlevel]; rfl, hfree⟩
  have hstart : e.Restarted := ⟨hcounter, hperiod ▸ hpos⟩
  refine ⟨fun n hn => ?below, ?top⟩
  case below =>
    have hk : n / T < 255 := Nat.div_lt_of_lt_mul (Nat.mul_comm 255 T ▸ hn)
    rw [hstart.clock_eq_advance n hpos fun j hj => (hrises j (by omega)).ratePeriod]
    exact ⟨(hrises _ hk).level, (hrises _ hk).state⟩
  case top =>
    have hlast : e.clock (255 * T) = (EnvState.step^[254] e).step.advance 0 :=
      hstart.clock_succ_mul 254 fun j hj => (hrises j (Nat.lt_succ_of_le hj)).ratePeriod
    rw [hlast, EnvState.level_advance, EnvState.state_advance]
    exact (hrises 254 (by decide)).step_top

end Sys2Proof.Machine
end

section
/-! A full release (41_envelope.md R107, R109, 70_reset_and_hazards.md R203): a level lasts as many steps as the
exponential period that the levels above it have brought, and those periods add up to 756. -/

namespace Sys2Proof.Machine

open Sys2Proof.Claims

/-- The exponential period at a level reached from above: the one of the last entry of R107 that was passed. -/
def periodFromAbove (level : Nat) : Nat :=
  if 0x5D < level then 1 else if 0x36 < level then 2 else if 0x1A < level then 4 else if 0x0E < level then 8
  else if 0x06 < level then 16 else 30

theorem periodFromAbove_pos (level : Nat) : 0 < periodFromAbove level := by
  unfold periodFromAbove
  split_ifs <;> decide

/-- One level down, R107 brings the period of the new level. -/
theorem periodAfter_periodFromAbove {level : Byte} (h0 : level ≠ 0) (htop : level ≠ 0xFF) :
    periodAfter level (periodFromAbove (level.toNat + 1)) = periodFromAbove level.toNat := by
  revert level
  decide

/-- The steps that take a level, just reached from above, down to 0. -/
def stepsToZero : Nat → Nat
  | 0 => 0
  | level + 1 => stepsToZero level + periodFromAbove (level + 1)

theorem periodFromAbove_le_stepsToZero {level : Nat} (h : level ≠ 0) : periodFromAbove level ≤ stepsToZero level := by
  cases level with
  | zero => exact absurd rfl h
  | succ level => exact Nat.le_add_left _ _

theorem eq_zero_of_stepsToZero_eq_zero {level : Nat} (h : stepsToZero level = 0) : level = 0 := by
  by_contra hne
  have hle := periodFromAbove_le_stepsToZero hne
  have hpos := periodFromAbove_pos level
  omega

/-- Levels that share one exponential period each take that many steps. -/
theorem stepsToZero_add {low p : Nat} : ∀ {n : Nat}, (∀ i < n, periodFromAbove (low + i + 1) = p) →
    stepsToZero (low + n) = stepsToZero low + n * p
  | 0, _ => by rw [Nat.zero_mul]; rfl
  | n + 1, hp => by
    rw [← Nat.add_assoc, stepsToZero, stepsToZero_add fun i hi => hp i (by omega), hp n (by omega), Nat.succ_mul,
      Nat.add_assoc]

/-- The sum over the table of R107, entry by entry. -/
theorem stepsToZero_top : stepsToZero 0xFF = 756 := by
  have h5D : stepsToZero 0xFF = stepsToZero 0x5D + 162 * 1 :=
    stepsToZero_add (n := 162) fun i _ => if_pos (by omega)
  have h36 : stepsToZero 0x5D = stepsToZero 0x36 + 39 * 2 := stepsToZero_add (n := 39) (by decide)
  have h1A : stepsToZero 0x36 = stepsToZero 0x1A + 28 * 4 := stepsToZero_add (n := 28) (by decide)
  have h0E : stepsToZero 0x1A = stepsToZero 0x0E + 12 * 8 := stepsToZero_add (n := 12) (by decide)
  have h06 : stepsToZero 0x0E = stepsToZero 0x06 + 8 * 16 := stepsToZero_add (n := 8) (by decide)
  have h00 : stepsToZero 0x06 = stepsToZero 0 + 6 * 30 := stepsToZero_add (n := 6) (by decide)
  have hzero : stepsToZero 0 = 0 := rfl
  omega

/-- A releasing envelope of rate period `T` with `k` steps to go to level 0. -/
structure EnvState.Falls (T k : Nat) (e : EnvState) : Prop where
  state : e.state = .release
  ratePeriod : e.ratePeriod = T
  holdZero : e.holdZero = false
  level : e.level ≠ 0
  expPeriod : e.expPeriod = periodFromAbove e.level.toNat
  expCounter : e.expCounter < e.expPeriod
  steps : stepsToZero e.level.toNat = k + e.expCounter

theorem toNat_eq_toNat_sub_one_add_one {level : Byte} (h : level ≠ 0) : level.toNat = (level - 1).toNat + 1 := by
  bv_omega

section release

variable {T k : Nat} {e : EnvState}

/-- Before the last step of a level the sub-counter counts (R105). -/
theorem EnvState.Falls.step_of_ne (h : e.Falls T (k + 1)) (hne : e.expCounter + 1 ≠ e.expPeriod) :
    e.step.Falls T k := by
  have hnotattack : e.state ≠ .attack := by simp [h.state]
  obtain ⟨hcounts, _⟩ := envelopeStepFollowsItsPhase e
  have hmore : e.expCounter + 1 < e.expPeriod := Nat.lt_of_le_of_ne h.expCounter hne
  have hsteps : stepsToZero e.level.toNat = k + (e.expCounter + 1) := by rw [h.steps]; omega
  rw [hcounts ⟨hnotattack, hne⟩]
  exact ⟨h.state, h.ratePeriod, h.holdZero, h.level, h.expPeriod, hmore, hsteps⟩

/-- The last step of a level falls by one (R109), and the steps to go are those of the new level. -/
theorem EnvState.Falls.step_of_eq (h : e.Falls T (k + 1)) (heq : e.expCounter + 1 = e.expPeriod) :
    stepsToZero (e.level - 1).toNat = k
    ∧ e.step = { e with
        rateCounter := 0
        expCounter := 0
        level := e.level - 1
        expPeriod := periodAfter (e.level - 1) e.expPeriod
        holdZero := decide (e.level - 1 = 0) } := by
  have hbelow := toNat_eq_toNat_sub_one_add_one h.level
  have hsteps := h.steps
  have hperiod := h.expPeriod
  have hlevel : levelAfter e = e.level - 1 := by rw [levelAfter, h.state]
  constructor
  · rw [hbelow] at hperiod hsteps
    rw [stepsToZero] at hsteps
    omega
  · rw [EnvState.step_of_acts (.inr heq) h.holdZero, hlevel]
    simp [h.state]

/-- Above level 0 there is a step to go. -/
theorem EnvState.Falls.steps_pos (h : e.Falls T k) : 0 < k := by
  have hperiod := h.expPeriod
  have hcounter := h.expCounter
  have hsteps := h.steps
  have hle := periodFromAbove_le_stepsToZero (level := e.level.toNat) fun hzero =>
    h.level (BitVec.eq_of_toNat_eq hzero)
  omega

theorem EnvState.Falls.step (h : e.Falls T (k + 1)) (hk : 0 < k) : e.step.Falls T k := by
  by_cases heq : e.expCounter + 1 = e.expPeriod
  · obtain ⟨hsteps, hstep⟩ := h.step_of_eq heq
    have hnotzero : e.level - 1 ≠ 0 := fun hzero => by
      rw [hzero] at hsteps
      exact hk.ne hsteps
    have hbelow := toNat_eq_toNat_sub_one_add_one h.level
    have hperiod : periodAfter (e.level - 1) e.expPeriod = periodFromAbove (e.level - 1).toNat := by
      rw [h.expPeriod, hbelow]
      exact periodAfter_periodFromAbove hnotzero (by bv_omega)
    rw [hstep]
    exact ⟨h.state, h.ratePeriod, decide_eq_false hnotzero, hnotzero, hperiod,
      hperiod ▸ periodFromAbove_pos _, hsteps⟩
  · exact h.step_of_ne heq

/-- The last step reaches level 0, where the envelope freezes (R107). -/
theorem EnvState.Falls.step_last (h : e.Falls T 1) : e.step.level = 0 ∧ e.step.holdZero = true := by
  have hlast : e.expCounter + 1 = e.expPeriod := by
    by_contra hne
    exact absurd (h.step_of_ne hne).steps_pos (Nat.lt_irrefl 0)
  obtain ⟨hsteps, hstep⟩ := h.step_of_eq hlast
  have hzero : e.level - 1 = 0 := BitVec.eq_of_toNat_eq (eq_zero_of_stepsToZero_eq_zero hsteps)
  rw [hstep]
  exact ⟨hzero, decide_eq_true hzero⟩

theorem EnvState.Falls.iterate_step (hk : 0 < k) : ∀ (j : Nat) {e : EnvState}, e.Falls T (k + j) →
    (EnvState.step^[j] e).Falls T k
  | 0, _, h => h
  | j + 1, _, h => EnvState.Falls.iterate_step hk j (h.step (k := k + j) (by omega))

end release

/-- Settles O45: each step of a full release brings it one nearer to level 0, and the 756th reaches it. -/
theorem fullReleaseTakesItsCycles : Obligations.FullReleaseTakesItsCycles := by
  intro e hstate hcounter hlevel hfree hexp hexpPeriod hperiod
  have hpos := ratePeriodOf_pos e.release
  generalize ratePeriodOf e.release = T at hperiod hpos ⊢
  have hstart : e.Restarted := ⟨hcounter, hperiod ▸ hpos⟩
  have htop : e.Falls T 756 :=
    { state := hstate
      ratePeriod := hperiod
      holdZero := hfree
      level := by rw [hlevel]; decide
      expPeriod := by rw [hexpPeriod, hlevel]; rfl
      expCounter := by rw [hexp, hexpPeriod]; exact one_pos
      steps := by rw [hlevel, hexp]; exact stepsToZero_top }
  have hfalls : ∀ j < 756, (EnvState.step^[j] e).Falls T (756 - j) := fun j hj =>
    EnvState.Falls.iterate_step (by omega) j (by rwa [Nat.sub_add_cancel hj.le])
  refine ⟨fun n hn => ?before, ?zero⟩
  case before =>
    have hj : n / T < 756 := Nat.div_lt_of_lt_mul (Nat.mul_comm 756 T ▸ hn)
    rw [hstart.clock_eq_advance n hpos fun j hle => (hfalls j (by omega)).ratePeriod]
    exact (hfalls _ hj).level
  case zero =>
    have hlast : e.clock (756 * T) = (EnvState.step^[755] e).step.advance 0 :=
      hstart.clock_succ_mul 755 fun j hj => (hfalls j (Nat.lt_succ_of_le hj)).ratePeriod
    rw [hlast, EnvState.level_advance, EnvState.holdZero_advance]
    exact (hfalls 755 (by decide)).step_last

end Sys2Proof.Machine
end

section
/-! Operations that are neither CLOCK nor RESET take no time (70_reset_and_hazards.md R202): a register's write leaves
what time moves. -/

namespace Sys2Proof.Machine

/-! ### The parts of the block -/

/-- What time moves in an envelope generator is the same in both. -/
def EnvState.SameTime (e f : EnvState) : Prop :=
  f.level = e.level ∧ f.rateCounter = e.rateCounter ∧ f.expCounter = e.expCounter ∧ f.expPeriod = e.expPeriod

theorem EnvState.SameTime.refl (e : EnvState) : e.SameTime e := ⟨rfl, rfl, rfl, rfl⟩

theorem EnvRegister.sameTime {f : EnvState → Byte → EnvState} (hf : EnvRegister f) (e : EnvState) (d : Byte) :
    e.SameTime (f e d) := by
  cases hf <;> exact .refl e

theorem EnvState.sameTime_writeGate (e : EnvState) (g : Bool) : e.SameTime (e.writeGate g) := by
  obtain ⟨_, _, hg⟩ | ⟨_, _, hg⟩ | ⟨_, hg⟩ := e.writeGate_cases g
  · rw [hg]; exact .refl e
  · rw [hg]; exact .refl e
  · rw [hg]; exact .refl e

/-- What time moves in a waveform generator is the same in both; a change of the test bit may move the accumulator and
the noise register as well (R76). -/
def WaveState.SameTime (w x : WaveState) : Prop :=
  x.msbRising = w.msbRising ∧ (x.test = w.test → x.acc = w.acc ∧ x.shift = w.shift)

theorem WaveState.SameTime.refl (w : WaveState) : w.SameTime w := ⟨rfl, fun _ => ⟨rfl, rfl⟩⟩

theorem WaveRegister.sameTime {f : WaveState → Byte → WaveState} (hf : WaveRegister f) (w : WaveState) (d : Byte) :
    w.SameTime (f w d) := by
  cases hf <;> exact .refl w

/-- The test bit's write moves the accumulator or the noise register only at an edge (R76). -/
theorem WaveState.sameTime_writeTest (p : Params) (w : WaveState) (t : Bool) : w.SameTime (w.writeTest p t) := by
  obtain ⟨hold, ht, hw⟩ | ⟨hold, ht, hw⟩ | ⟨_, hw⟩ := w.writeTest_cases p t
  · rw [hw]; exact ⟨rfl, fun hsame => by simp [hold] at hsame⟩
  · rw [hw]; exact ⟨rfl, fun hsame => by simp [hold] at hsame⟩
  · rw [hw]; exact .refl w

theorem WaveState.sameTime_writeCtrl (p : Params) (w : WaveState) (d : Byte) : w.SameTime (w.writeCtrl p d) :=
  WaveState.sameTime_writeTest p (w.writeCtrlFields d) (ctrlTest d)

/-- The integrators and the bypass sum of the filter are the same in both. -/
def FilterState.SameTime (f g : FilterState) : Prop :=
  g.vhp = f.vhp ∧ g.vbp = f.vbp ∧ g.vlp = f.vlp ∧ g.vnf = f.vnf

theorem FilterState.SameTime.refl (f : FilterState) : f.SameTime f := ⟨rfl, rfl, rfl, rfl⟩

theorem FilterRegister.sameTime {f : FilterState → Byte → FilterState} (hf : FilterRegister f) (x : FilterState)
    (d : Byte) : x.SameTime (f x d) := by
  cases hf <;> exact .refl x

/-! ### The block -/

/-- What time moves in the block is the same in both. -/
structure State.SameTime (s t : State) : Prop where
  ext : t.ext = s.ext
  filter : s.filter.SameTime t.filter
  env : ∀ v, (s.env v).SameTime (t.env v)
  wave : ∀ v, (s.wave v).SameTime (t.wave v)

theorem Effect.sameTime {i : Instr} {s t : State} (h : Effect i s t) (hrst : i ≠ .rst) (hclk : ∀ dt, i ≠ .clk dt) :
    s.SameTime t := by
  cases h with
  | wave v d hf =>
    refine ⟨rfl, .refl _, fun u => ?_, fun u => ?_⟩
    · rw [State.env_writeWave]; exact .refl _
    · rw [State.wave_writeWave]
      split
      · next huv => rw [huv]; exact hf.sameTime _ d
      · exact .refl _
  | env v d hf =>
    refine ⟨rfl, .refl _, fun u => ?_, fun u => ?_⟩
    · rw [State.env_writeEnv]
      split
      · next huv => rw [huv]; exact hf.sameTime _ d
      · exact .refl _
    · rw [State.wave_writeEnv]; exact .refl _
  | control v d hi =>
    refine ⟨rfl, .refl _, fun u => ?_, fun u => ?_⟩
    · rw [State.env_writeCtrl]
      split
      · next huv => rw [huv]; exact EnvState.sameTime_writeGate _ _
      · exact .refl _
    · rw [State.wave_writeCtrl]
      split
      · next huv => rw [huv]; exact WaveState.sameTime_writeCtrl _ _ d
      · exact .refl _
  | filter d hf => exact ⟨rfl, hf.sameTime _ d, fun _ => .refl _, fun _ => .refl _⟩
  | latch d => exact ⟨rfl, .refl _, fun _ => .refl _, fun _ => .refl _⟩
  | read r => exact ⟨rfl, .refl _, fun _ => .refl _, fun _ => .refl _⟩
  | clock dt hi => exact absurd hi (hclk dt)
  | reset hi => exact absurd hi hrst

/-- Settles O59: every effect but those of CLOCK and RESET leaves what time moves. -/
theorem timeAdvancesOnlyByClock : Obligations.TimeAdvancesOnlyByClock := by
  intro i s t hexec hrst hclk
  have hsame := (exec_effect hexec).sameTime hrst hclk
  obtain ⟨hvhp, hvbp, hvlp, hvnf⟩ := hsame.filter
  refine ⟨hsame.ext, hvhp, hvbp, hvlp, hvnf, fun v => ?_⟩
  obtain ⟨hlevel, hrate, hexp, hperiod⟩ := hsame.env v
  exact ⟨hlevel, hrate, hexp, hperiod, hsame.wave v⟩

end Sys2Proof.Machine
end

section
/-! RESET (70_reset_and_hazards.md R186, R189), and a step with no command word issued (log entry 2). -/

namespace Sys2Proof.Machine

open Sys2Proof.Claims

/-! ### RESET twice -/

/-- What RESET keeps, the host's stream and what it was given, RESET does not read for any field of the block. -/
@[simp] theorem State.resetBlock_resetBlock (s : State) : s.resetBlock.resetBlock = s.resetBlock := rfl

/-- Settles O28: RESET answers the reset block, which is its own reset. -/
theorem resetTwiceIsResetOnce : Obligations.ResetTwiceIsResetOnce :=
  fun s => ⟨s.resetBlock, rfl, congrArg Host.Outcome.next s.resetBlock_resetBlock⟩

/-! ### The host's view after RESET -/

theorem exec_rst_eq_next_iff {s t : State} : exec .rst s = .next t ↔ t = s.resetBlock := by
  have hrst : exec .rst s = .next s.resetBlock := rfl
  rw [hrst, Host.Outcome.next.injEq, eq_comm]

theorem waveOutput_of_no_waveform {w : WaveState} (h : w.waveform = 0) (src : Nat) : waveOutput w src = 0 := by
  simp [waveOutput, h]

theorem State.osc3_resetBlock (s : State) : s.resetBlock.osc3 params = 0 := by
  have hnone : (s.resetBlock.wave 2).waveform = 0 := by rw [State.wave_resetBlock]; rfl
  rw [State.osc3_eq, waveOutput_of_no_waveform hnone]
  rfl

theorem State.env3_resetBlock (s : State) : s.resetBlock.env3 = 0 := by
  rw [State.env3, State.env_resetBlock]
  rfl

/-- Every row of `RegRead` is 0 (R153 to R156): the constants, OSC3, ENV3, and the cleared bus. -/
theorem State.regRead_resetBlock (s : State) (off : Offset) : s.resetBlock.regRead params off = 0 := by
  unfold State.regRead
  split
  · rfl
  · rfl
  · exact s.osc3_resetBlock
  · exact s.env3_resetBlock
  · rfl

theorem ExtFilterState.sample_reset : ExtFilterState.reset.sample = 0 := by decide

/-- At level 0 an unmuted voice puts out its model's DC alone (R120). -/
theorem State.voiceOut_of_level_zero {p : Params} {s : State} {v : VoiceId} (hmute : p.mute v = false)
    (hlevel : (s.env v).level = 0) : s.voiceOut p v = voiceDc p.model := by
  rw [State.voiceOut_of_not_mute hmute, hlevel]
  simp

/-- Settles O29: the reads by the window's dispatch, OUTPUT and the voices by the reset values of R28. -/
theorem afterResetTheHostReadsZeros : Obligations.AfterResetTheHostReadsZeros := by
  intro s t hrst
  obtain rfl := exec_rst_eq_next_iff.mp hrst
  have hlevel (v : VoiceId) : (s.resetBlock.env v).level = 0 := by rw [State.env_resetBlock]; rfl
  refine ⟨fun off i hdecode => ?reads, ?output, hlevel, fun p v hmute hmodel => ?voices⟩
  case reads =>
    rw [decode_readWord, Except.ok.injEq] at hdecode
    rw [← hdecode, exec_decodeRead, State.regRead_resetBlock]
  case output =>
    have hsample : s.resetBlock.ext.sample = 0 := ExtFilterState.sample_reset
    have hout : exec .out s.resetBlock = .next (s.resetBlock.deliver (.sample s.resetBlock.ext.sample)) := rfl
    rw [hout, hsample]
    rfl
  case voices => rw [State.voiceOut_of_level_zero hmute (hlevel v), hmodel, voiceDc_mos6581]

/-! ### Nothing issued -/

theorem State.take_of_pending_nil {s : State} (h : s.pending = []) : s.take = none := by
  rw [State.take, h]

/-- Settles O6: there is no word to take, and the step answers the state it was given. -/
theorem stepWithNothingIssuedChangesNothing : Obligations.StepWithNothingIssuedChangesNothing := by
  intro s hpending
  rw [step, State.take_of_pending_nil hpending]

end Sys2Proof.Machine
end
